-- ==== Sys2Proof/Word.lean ====
section
/-! DEFINITION. The words the HT-418 passes about: the widths of the values the manual treats as bits.
Positions, limits and counts that do not wrap are `Int` and `Nat`; what wraps is a `BitVec`. -/

namespace Sys2Proof

/-- One byte of a frame (R187). -/
abbrev Byte := BitVec 8

/-- A two-byte field: a sequence, a segment number, a frame counter (R145, R184, R187). -/
abbrev Half := BitVec 16

/-- A 24-bit wrapping step counter of an axis channel (R28). -/
abbrev Count24 := BitVec 24

/-- A cycle number, 32 bits, wrapping; differences are taken modulo 2^32 (R167). -/
abbrev CycleNo := BitVec 32

/-- An Ethernet address (R184). -/
abbrev EthAddr := BitVec 48

end Sys2Proof
end

