-- ==== Sys2Proof/Config.lean ====
section
/-! DEFINITION. What one HT-418 is fixed to at manufacture, the constants of the link, and the free values: results
that the manual leaves unstated although the controller goes on (notes/assumptions/2.md). -/

namespace Sys2Proof.Config

/-- The controller's own Ethernet source address, "fixed at manufacture" (R184, R196). Free: no proof can see it. -/
opaque ethernetAddress : EthAddr

/-- The request code that a reply to an accepted MGMT_REQ carries when the payload is too short to hold one: R192 states
it (0) for a DENIED request only. Free, as a function of the payload that arrived. -/
opaque shortRequestCode : List Byte → Half

/-- "The arc time charged to the oldest record" that ARC.GET returns (R122) while nothing is charged: the arc OFF, or no
record in flight. Free, as a function of the overrun base and the cycle number. -/
opaque unchargedArcTime : CycleNo → CycleNo → CycleNo

/-- The broadcast address: the Ethernet destination of the frames the controller originates (R184). -/
def broadcastAddress : EthAddr := 0xFFFFFFFFFFFF#48

/-- The EtherType of hall frames (R180, R187). -/
def hallEtherType : Half := 0x88B6#16

/-- The part code HT-418, as its six characters (R196). -/
def partCode : List Byte := [0x48#8, 0x54#8, 0x2D#8, 0x34#8, 0x31#8, 0x38#8]

/-- The silicon revision letter of the parts the manual describes: B (R196). -/
def revisionLetter : Byte := 0x42#8

/-- How many units' acts one event may set off before the model stops following them (notes/assumptions/9.md): above
what any state within the capacities of R65, R96 and R104 can set off. -/
def agendaLimit : Nat := 65536

end Sys2Proof.Config
end

