-- ==== Sys2Proof/Syntax.lean ====
section
/-! DEFINITION. The commands of the HT-418: one constructor of `Instr` for each row of spec/opcode_table.json. Arriving
frames keep their header and payload as bytes where the controller forwards, holds or parses them; management requests
carry their arguments by value, as numbers before any range check, so that every argument the wire can carry has a
command (R187, R191). -/

namespace Sys2Proof

/-- Port U faces the planning network, Port F the field segment (chapter 10). -/
inductive Port where
  | u
  | f
  deriving DecidableEq, Repr

/-- The header of an arriving hall frame, its Ethernet addresses and the port it arrived on (R187). The kind is the
command's own. -/
structure Header where
  port : Port
  ethDst : EthAddr
  ethSrc : EthAddr
  version : Byte
  dst : Byte
  src : Byte
  seq : Half
  deriving DecidableEq, Repr

/-- Who sent a management request to the controller's own number, through which port and under which sequence (R193). -/
structure Req where
  port : Port
  src : Byte
  seq : Half
  deriving DecidableEq, Repr

/-- An Ethernet frame as a port sees it before anything is judged (R180). -/
structure RawFrame where
  port : Port
  fcsGood : Bool
  ethDst : EthAddr
  ethSrc : EthAddr
  etherType : Half
  bytes : List Byte
  deriving DecidableEq, Repr

/-- A number, or the word ALL in its place (R191). -/
inductive Sel where
  | one (n : Nat)
  | all
  deriving DecidableEq, Repr

/-- The eight configuration values of a crane, in the order of R35. -/
structure CraneConfig where
  bridgeMargin : Nat := 500
  trolleyMargin : Nat := 500
  settle : Nat := 3
  bridgeTolerance : Nat := 25
  trolleyTolerance : Nat := 25
  startLimit : Nat := 2000
  opLimit : Nat := 20000
  holdLimit : Nat := 3000
  deriving DecidableEq, Repr

/-- The twelve values of TABLE.SET as carried, in the order of R64 (the policies as their codes: 0 ALLOW, 1 NEVER; mark
before lift 0 yes, 1 no: R191). -/
structure TableArgs where
  marker : Option Nat
  window : Nat
  lowWater : Nat
  stallLimit : Nat
  linger : Nat
  ignite : Nat
  arcDepth : Nat
  yieldPolicy : Nat
  markPolicy : Nat
  minSide : Nat
  pierceLimit : Nat
  arcLimit : Nat
  deriving DecidableEq, Repr

/-- A location as a request carries it: a kind byte and a number byte (R190, R191). -/
structure PlaceArg where
  kind : Nat
  number : Nat
  deriving DecidableEq, Repr

/-- What PIECE.PUT carries (R148); the kind by its code of R190. -/
structure PutArgs where
  id : Nat
  kind : Nat
  parent : Option Nat
  grade : Nat
  thickness : Nat
  width : Nat
  length : Nat
  place : PlaceArg
  tag : Option Nat
  marked : Bool
  partlyCut : Bool
  deriving DecidableEq, Repr

/-- What PIECE.AMEND carries beside the ID (R154). -/
structure AmendArgs where
  grade : Nat
  thickness : Nat
  width : Nat
  length : Nat
  marked : Bool
  partlyCut : Bool
  deriving DecidableEq, Repr

/-- What STATION.SET carries beside the station number (R161): the kind by its code and unit number. -/
structure StationArgs where
  kind : Nat
  unit : Nat
  side : Nat
  manage : Bool
  mirror : Bool
  missLimit : Nat
  deriving DecidableEq, Repr

/-- The commands: one constructor for each row of spec/opcode_table.json, in its order. -/
inductive Instr where
  /-- POWER_ON: supply is applied (R16 and the reset tables of every chapter). -/
  | powerOn
  /-- GEOMETRY_SET (R2): O, W and Z of the bridge, then of the trolley. -/
  | geometrySet (r : Req) (ob : Int) (wb zb : Nat) (ot : Int) (wt zt : Nat)
  /-- GEOMETRY_GET (R3). -/
  | geometryGet (r : Req)
  /-- ZONE_SET (R7): the use by its code, with a table number for TABLE. -/
  | zoneSet (r : Req) (zone use table capacity : Nat)
  /-- ZONE_GET (R8). -/
  | zoneGet (r : Req) (zone : Nat)
  /-- ZONE_ACK (R9): one zone, or ALL. -/
  | zoneAck (r : Req) (zone : Sel)
  /-- AXIS_SET (R19): channel, mode, filter depth, reference value, drift tolerance, count pitch. -/
  | axisSet (r : Req) (channel mode depth : Nat) (reference : Int) (tolerance pitch : Nat)
  /-- AXIS_GET (R20). -/
  | axisGet (r : Req) (channel : Nat)
  /-- AXIS_PRESET (R32). -/
  | axisPreset (r : Req) (channel : Nat) (position : Int)
  /-- CRANE_SET (R36). -/
  | craneSet (r : Req) (crane : Nat) (values : CraneConfig)
  /-- CRANE_GET (R37). -/
  | craneGet (r : Req) (crane : Nat)
  /-- UNIT_ABANDON (R62, R90): the unit by its code of R190. -/
  | unitAbandon (r : Req) (unit : Nat)
  /-- TABLE_SET (R67). -/
  | tableSet (r : Req) (table : Nat) (values : TableArgs)
  /-- TABLE_GET (R68). -/
  | tableGet (r : Req) (table : Nat)
  /-- TABLE_QUEUE (R68). -/
  | tableQueue (r : Req) (table start : Nat)
  /-- TABLE_SKIP (R87). -/
  | tableSkip (r : Req) (table : Nat)
  /-- TABLE_FLUSH (R88). -/
  | tableFlush (r : Req) (table : Nat)
  /-- TABLE_RESUME (R89). -/
  | tableResume (r : Req) (table : Nat)
  /-- TABLE_WEAR_RESET (R121). -/
  | tableWearReset (r : Req) (table : Nat)
  /-- ARC_GET (R122). -/
  | arcGet (r : Req) (table : Nat)
  /-- HOLD_GET (R108). -/
  | holdGet (r : Req)
  /-- MARKER_SET (R125): look-ahead and edge margin. -/
  | markerSet (r : Req) (marker : Nat) (lookAhead : Int) (edgeMargin : Nat)
  /-- MARKER_GET (R126). -/
  | markerGet (r : Req) (marker : Nat)
  /-- PIECE_PUT (R148). -/
  | piecePut (r : Req) (values : PutArgs)
  /-- PIECE_GET (R149). -/
  | pieceGet (r : Req) (id : Nat)
  /-- PIECE_LIST (R150). -/
  | pieceList (r : Req) (start count : Nat) (changedOnly : Bool)
  /-- PIECE_DROP (R151). -/
  | pieceDrop (r : Req) (id : Nat)
  /-- PIECE_RESERVE (R152). -/
  | pieceReserve (r : Req) (id tag : Nat)
  /-- PIECE_UNRESERVE (R152). -/
  | pieceUnreserve (r : Req) (id : Nat)
  /-- PIECE_PLACE (R153). -/
  | piecePlace (r : Req) (id : Nat) (place : PlaceArg)
  /-- PIECE_AMEND (R154). -/
  | pieceAmend (r : Req) (id : Nat) (values : AmendArgs)
  /-- STATION_SET (R161). -/
  | stationSet (r : Req) (station : Nat) (values : StationArgs)
  /-- STATION_GET (R163). -/
  | stationGet (r : Req) (station : Nat)
  /-- RUN (R171), with the step flag. -/
  | run (r : Req) (stepFlag : Bool)
  /-- STOP (R172). -/
  | stop (r : Req)
  /-- CYCLE_SET (R169): the trim in microseconds. -/
  | cycleSet (r : Req) (trim : Int)
  /-- SCHED_SET (R170). -/
  | schedSet (r : Req) (entry : Nat) (list : List Nat)
  /-- SCHED_GET (R170). -/
  | schedGet (r : Req) (entry : Nat)
  /-- PORT_ENABLE (R178): 0 is Port U, 1 is Port F. -/
  | portEnable (r : Req) (port : Nat)
  /-- PORT_DISABLE (R178). -/
  | portDisable (r : Req) (port : Nat)
  /-- PORT_ACK (R179): one port, or ALL. -/
  | portAck (r : Req) (port : Sel)
  /-- PORT_GET (R179). -/
  | portGet (r : Req)
  /-- DEVICE_SET (R195): own number, report station, unlisted policy (0 FORWARD, 1 DROP). -/
  | deviceSet (r : Req) (own : Nat) (report : Option Nat) (policy : Nat)
  /-- DEVICE_GET (R196). -/
  | deviceGet (r : Req)
  /-- STATUS_GET (R203). -/
  | statusGet (r : Req)
  /-- NOTICE_MASK (R199): bit k for the class of code k + 1. -/
  | noticeMask (r : Req) (classes : Byte)
  /-- NOTICE_ACK (R200): a set of classes; ALL is the byte 0xFF. -/
  | noticeAck (r : Req) (classes : Byte)
  /-- NOTICE_GET (R201). -/
  | noticeGet (r : Req)
  /-- RESET_FULL (R204): the RESET request with the scope byte as it arrived; FULL is 0. -/
  | resetFull (r : Req) (scope : Nat)
  /-- RESET_RUNTIME (R204): the RESET request with the scope byte as it arrived; RUNTIME is 1. -/
  | resetRuntime (r : Req) (scope : Nat)
  /-- BAD_REQUEST (R193): an MGMT_REQ payload whose code is unknown or which is too short. -/
  | badRequest (r : Req) (payload : List Byte)
  /-- FOREIGN_FRAME (R180): a frame with a good check sequence and another EtherType. -/
  | foreignFrame (port : Port) (etherType : Half) (ethDst ethSrc : EthAddr) (bytes : List Byte)
  /-- FRAME_DROPPED (R180 to R182): any frame that the port, the header check or classification drops. -/
  | frameDropped (raw : RawFrame)
  /-- HALL_FRAME_FORWARD (R183): a hall frame neither gated nor consumed, with its kind code and payload. -/
  | hallFrameForward (h : Header) (kind : Byte) (payload : List Byte)
  /-- MOVE (R43). -/
  | move (h : Header) (payload : List Byte)
  /-- LIFT (R44). -/
  | lift (h : Header) (payload : List Byte)
  /-- LOWER (R45). -/
  | lower (h : Header) (payload : List Byte)
  /-- ARREST (R60, R86). -/
  | arrest (h : Header) (payload : List Byte)
  /-- SEG (R71). -/
  | seg (h : Header) (payload : List Byte)
  /-- CRANE_SAMPLE (R40): the three payload bytes of R188. -/
  | craneSample (h : Header) (bridge trolley state : Byte)
  /-- TABLE_SAMPLE (R79): the two payload bytes of R188. -/
  | tableSample (h : Header) (state done : Byte)
  /-- MARKER_SAMPLE (R127): the four payload bytes of R188. -/
  | markerSample (h : Header) (carriage state struck waiting : Byte)
  /-- CYCLE_BOUNDARY (R168): a cycle length runs out. -/
  | cycleBoundary
  /-- STATION_STALE (R165): a FRESH station's miss count reaches its miss limit. -/
  | stationStale (station : Nat)
  /-- STATION_SILENT (R165): a NEVER station's miss count reaches its miss limit. -/
  | stationSilent (station : Nat)
  /-- NOT_STARTED (R54): a MOVE that has not moved reaches its start limit. -/
  | notStarted (crane : Fin 4)
  /-- OP_TIMEOUT (R57): a LIFT or LOWER reaches its operation limit. -/
  | opTimeout (crane : Fin 4)
  /-- HOLD_EXPIRED (R102): a held crane reaches its hold limit. -/
  | holdExpired (crane : Fin 4)
  /-- STALL (R82): a table's stall timer reaches the stall limit. -/
  | stall (table : Fin 6)
  /-- LINGER_EXPIRY (R83): a table's linger timer reaches the linger value. -/
  | lingerExpiry (table : Fin 6)
  /-- ARC_OVERRUN (R117): the arc time charged to the oldest cutting record passes its limit. -/
  | arcOverrun (table : Fin 6)
  /-- ARC_NO_START (R118): an ignite watch reaches the ignite limit. -/
  | arcNoStart (table : Fin 6)
  /-- PORT_F_LINK_DOWN (R175, R177). -/
  | portFLinkDown
  /-- PORT_F_LINK_UP (R177). -/
  | portFLinkUp
  /-- PORT_U_LINK_DOWN (R177). -/
  | portULinkDown
  /-- PORT_U_LINK_UP (R177). -/
  | portULinkUp
  /-- SUPPLY_REMOVED (R192 and the introduction's electrical summary). -/
  | supplyRemoved
  deriving DecidableEq, Repr

end Sys2Proof
end

