-- ==== Sys2Proof/Decode.lean ====
section
/-! DEFINITION. The command that a table word spells. No row of spec/opcode_table.json gives bits, so no word spells one
(notes/assumptions/12.md); the frame and request layouts of R187 to R191 are read in Machine/Segments.lean,
Machine/Wire.lean and Machine/Arrival.lean. -/

namespace Sys2Proof

/-- The command that a word of the table spells: none, since no row of the table gives bits. -/
def decodeTableWord (_nbits _w : Nat) : Option Instr := none

end Sys2Proof
end

