-- ==== Sys2Proof/Machine/State.lean ====
section
/-! DEFINITION. Everything the manual gives the HT-418 as state, as plain data, and the state after power-on. Each
structure cites the rule that lists its fields; INVENTORY.md lists them one by one with their reset values. -/

namespace Sys2Proof.Machine

/-! ## Hall geometry and zones (R1, R4) -/

/-- One axis part of the hall geometry (R1): origin, pitch in counts, zone count. -/
structure AxisGeometry where
  origin : Int := 0
  pitch : Nat := 0
  zones : Nat := 0
  deriving DecidableEq, Repr

/-- The use of a zone (R4), in the order that gives the codes of R191. -/
inductive Use where
  | none
  | floor
  | rack
  | aisle
  | table (t : Fin 6)
  | keepOut
  deriving DecidableEq, Repr

/-- A zone record (R4). -/
structure Zone where
  use : Use := .none
  capacity : Nat := 0
  stored : Nat := 0
  claim : Option (Fin 4) := none
  permit : Option (Fin 6) := none
  conflict : Bool := false
  deriving DecidableEq, Repr

/-! ## Axis channels (R18, R20 to R22) -/

/-- Decoding mode of an axis channel (R18). -/
inductive Mode where
  | two
  | three
  deriving DecidableEq, Repr

/-- A filtered level: accepted level and candidate run (R21). -/
structure Level where
  level : Bool := false
  run : Nat := 0
  deriving DecidableEq, Repr

/-- A phase state S1 S2 S3; in TWO mode S3 reads 0 (R24, R25). -/
structure Phase where
  s1 : Bool
  s2 : Bool
  s3 : Bool
  deriving DecidableEq, Repr

/-- An axis channel. `illegal` is the ILLEGAL flag, which is set exactly while an illegal episode is open (R26). -/
structure Channel where
  mode : Mode := .two
  depth : Nat := 2
  reference : Int := 0
  tolerance : Nat := 0
  pitch : Nat := 1000
  position : Int := 0
  homed : Bool := false
  primed : Bool := false
  resume : Bool := false
  l1 : Level := {}
  l2 : Level := {}
  l3 : Level := {}
  lref : Level := {}
  lastValid : Option Phase := none
  forward : Count24 := 0
  backward : Count24 := 0
  limit : Bool := false
  illegal : Bool := false
  lastDrift : Nat := 0
  deriving DecidableEq, Repr

/-! ## Frames and what leaves the ports (R180, R187) -/

/-- A hall frame: Ethernet addresses, header and payload; the payload length of the header is the payload's own. -/
structure Frame where
  ethDst : EthAddr
  ethSrc : EthAddr
  version : Byte
  kind : Byte
  dst : Byte
  src : Byte
  seq : Half
  payload : List Byte
  deriving DecidableEq, Repr

/-- What a port sends: a hall frame, or a foreign frame passed through (R180). -/
inductive Sent where
  | hall (frame : Frame)
  | foreign (etherType : Half) (ethDst ethSrc : EthAddr) (bytes : List Byte)
  deriving DecidableEq, Repr

/-! ## Crane units (R35, R38, R39) -/

/-- A crane operation with the fields R39 keeps for it alone: targets, or piece ID and saved radius. -/
inductive Operation where
  | move (bridge trolley : Int)
  | lift (piece radius : Nat)
  | lower
  deriving DecidableEq, Repr

/-- The operation record of a HELD or IN_FLIGHT slot (R39). -/
structure OpRecord where
  operation : Operation
  source : Byte
  seq : Half
  port : Port
  entry : CycleNo
  moved : Bool := false
  deriving DecidableEq, Repr

/-- The move slot (R39); a HELD slot keeps the whole gated frame as it arrived. -/
inductive Slot where
  | empty
  | held (op : OpRecord) (copy : Frame)
  | inFlight (op : OpRecord)
  deriving DecidableEq, Repr

/-- A crane's load (R38). -/
inductive Load where
  | none
  | piece (id : Nat)
  | untracked (radius : Nat)
  deriving DecidableEq, Repr

/-- How an operation ended (R38, R52). -/
inductive OpEnd where
  | complete
  | stoppedShort
  | notStarted
  | opTimeout
  | abandoned
  deriving DecidableEq, Repr

/-- The last result: the end, the operation kind by its code 0 MOVE, 1 LIFT, 2 LOWER, and the cycle of the end (R38). -/
structure LastResult where
  result : OpEnd
  kind : Nat
  cycle : CycleNo
  deriving DecidableEq, Repr

/-- A crane unit (R35, R38, R39). `moving` is the filtered motion, true for MOVING. -/
structure Crane where
  config : CraneConfig := {}
  moving : Bool := false
  still : Nat := 0
  latchPrimed : Bool := false
  latchResume : Bool := false
  latch : Level := {}
  load : Load := .none
  claimed : Nat := 0
  trespass : List Nat := []
  slot : Slot := .empty
  last : Option LastResult := none
  deriving DecidableEq, Repr

/-! ## Hold List (R96) -/

/-- A unit in the Hold List (R96). -/
inductive HoldUnit where
  | crane (c : Fin 4)
  | table (t : Fin 6)
  deriving DecidableEq, Repr

/-- An entry of the Hold List (R96). -/
structure HoldEntry where
  unit : HoldUnit
  entry : CycleNo
  deriving DecidableEq, Repr

/-! ## Cutting tables (R64, R65, R70) -/

/-- Table states (R69). -/
inductive TableState where
  | idle
  | queued
  | permitWait
  | active
  | yielding
  | headError
  | fault
  deriving DecidableEq, Repr

/-- Entry kinds (R70); an entry kind outside 1 to 7 is stored with its code and the mark BAD_FIELDS (R189). -/
inductive EntryKind where
  | plateBegin
  | pierceCut
  | cut
  | traverse
  | markLine
  | markText
  | plateEnd
  | other (code : Byte)
  deriving DecidableEq, Repr

/-- Marks of a queue entry, in the order of R70. -/
inductive Mark where
  | seqGap
  | noMarker
  | badFields
  | pieceNotHere
  | pieceReserved
  | plateOpen
  | noPlate
  | markerUnhomed
  deriving DecidableEq, Repr

/-- A remnant rectangle of a PLATE_END (R70). -/
structure Rect where
  id : Nat
  width : Nat
  length : Nat
  deriving DecidableEq, Repr

/-- The part of an entry that depends on its kind (R70, R189). -/
inductive EntryBody where
  | plain
  | line (start : Int) (length dots : Nat) (refit : Bool)
  | text (position : Int) (chars : List Byte)
  | rects (list : List Rect)
  deriving DecidableEq, Repr

/-- A Segment Queue entry (R70); piece ID 0 stands for none (R187). -/
structure Entry where
  kind : EntryKind
  segment : Half
  piece : Nat
  tag : Nat
  arcLimit : Nat
  body : EntryBody
  path : List Byte
  source : Byte
  seq : Half
  marks : List Mark
  deriving DecidableEq, Repr

/-- A record of the in-flight list (R65). -/
structure Flight where
  kind : EntryKind
  segment : Half
  piece : Nat
  arcLimit : Nat
  release : CycleNo
  deriving DecidableEq, Repr

/-- Release target (R65). -/
inductive Target where
  | controller
  | marker
  deriving DecidableEq, Repr

/-- The configuration of a table (R64). -/
structure TableConfig where
  marker : Option (Fin 4) := none
  window : Nat := 2
  lowWater : Nat := 4
  stallLimit : Nat := 500
  linger : Nat := 200
  ignite : Nat := 400
  arcDepth : Nat := 2
  yieldAllowed : Bool := true
  markFirst : Bool := false
  minSide : Nat := 400
  pierceLimit : Nat := 0
  arcLimit : Nat := 0
  deriving DecidableEq, Repr

/-- A table unit (R64, R65). In flight is (released − done) modulo 256 and is not held separately. -/
structure Table where
  config : TableConfig := {}
  state : TableState := .idle
  permit : Bool := false
  queue : List Entry := []
  released : Byte := 0
  done : Byte := 0
  flights : List Flight := []
  target : Target := .controller
  lastDone : Option Byte := none
  ready : Bool := false
  plate : Option Nat := none
  expected : Option Half := none
  markSummary : Bool := false
  overrun : Bool := false
  lastSource : Option (Byte × Port) := none
  stall : Nat := 0
  stallSent : Bool := false
  linger : Nat := 0
  yielders : List (Fin 4) := []
  deriving DecidableEq, Repr

/-! ## Arc monitors (R110) -/

/-- The arc monitor of a table (R110). The arc state is the accepted level, OFF while unprimed. -/
structure Arc where
  primed : Bool := false
  resume : Bool := false
  arc : Level := {}
  lastEdge : CycleNo := 0
  lastOn : CycleNo := 0
  lastOff : CycleNo := 0
  base : CycleNo := 0
  watch : Option (Half × CycleNo) := none
  episode : Bool := false
  platePierces : Nat := 0
  wearPierces : Nat := 0
  wearArc : Nat := 0
  piercesReported : Bool := false
  arcReported : Bool := false
  deriving DecidableEq, Repr

/-! ## Marker units (R124, R130, R133) -/

/-- A line record (R130). `replaceDue` is the model's own: the next STRIKE of the line is the first after a refit or a
clip and carries the replace flag (notes/assumptions/20.md). -/
structure Line where
  id : Half
  start : Int
  length : Nat
  dots : Nat
  refit : Bool
  total : Nat
  spanBase : Int
  spanLength : Nat
  spanDots : Nat
  accumulator : Int
  nextIndex : Nat
  produced : Nat
  issued : Nat
  struckBase : Byte
  unstruck : List (Nat × Int)
  edgeTaken : Bool
  replaceDue : Bool
  deriving DecidableEq, Repr

/-- A text record (R133). -/
structure TextMark where
  segment : Half
  piece : Nat
  struckBase : Byte
  deriving DecidableEq, Repr

/-- A marker unit (R124). `edge` is none while the edge level is unprimed. -/
structure Marker where
  lookAhead : Int := 0
  edgeMargin : Nat := 0
  struck : Option Byte := none
  waiting : Nat := 0
  ready : Bool := false
  edge : Option Bool := none
  resume : Bool := false
  line : Option Line := none
  text : Option TextMark := none
  deriving DecidableEq, Repr

/-! ## Stock Table (R142) -/

/-- Kind of a piece (R142). -/
inductive PieceKind where
  | plate
  | remnant
  deriving DecidableEq, Repr

/-- Lifecycle of a piece (R142). -/
inductive Lifecycle where
  | available
  | inCut
  | awaitingMark
  deriving DecidableEq, Repr

/-- Location of a piece (R142). -/
inductive Location where
  | zone (z : Nat)
  | onCrane (c : Fin 4)
  | onTable (t : Fin 6)
  | unverified (z : Option Nat)
  deriving DecidableEq, Repr

/-- A piece record (R142); thickness in tenths of a millimetre. -/
structure Piece where
  id : Nat
  kind : PieceKind
  parent : Option Nat
  grade : Nat
  thickness : Nat
  width : Nat
  length : Nat
  lifecycle : Lifecycle
  location : Location
  tag : Option Nat
  marked : Bool
  partlyCut : Bool
  revision : Byte
  changed : Bool
  deriving DecidableEq, Repr

/-! ## Stations, cycle master, run control (R160, R167, R171) -/

/-- Kind of a station (R160). -/
inductive StationKind where
  | none
  | crane (c : Fin 4)
  | table (t : Fin 6)
  | marker (m : Fin 4)
  | source
  deriving DecidableEq, Repr

/-- Side of a station (R160). -/
inductive Side where
  | field
  | upstream
  deriving DecidableEq, Repr

/-- Freshness of a station (R160). -/
inductive Freshness where
  | never
  | fresh
  | stale
  deriving DecidableEq, Repr

/-- A Station Table record (R160). -/
structure Station where
  kind : StationKind := .none
  side : Side := .field
  manage : Bool := false
  mirror : Bool := false
  missLimit : Nat := 8
  freshness : Freshness := .never
  misses : Nat := 0
  polled : Bool := false
  silent : Bool := false
  deriving DecidableEq, Repr

/-- Run state (R171). -/
inductive RunState where
  | halted
  | running
  | stopping
  deriving DecidableEq, Repr

/-- Stop cause (R171). -/
inductive StopCause where
  | none
  | stop
  | stepDone
  | linkLost
  deriving DecidableEq, Repr

/-- Unlisted policy (R195). -/
inductive Policy where
  | forward
  | drop
  deriving DecidableEq, Repr

/-! ## Notices (R197) -/

/-- Notice classes, highest priority first (R197). -/
inductive NoticeClass where
  | guard
  | fault
  | flow
  | refusal
  | wear
  deriving DecidableEq, Repr

/-- The last detail of a class: event code, unit code and value of its latest occurrence (R197). -/
structure Detail where
  code : Nat
  unit : Nat
  value : Int
  deriving DecidableEq, Repr

/-- The state of a notice class (R197). -/
structure Notice where
  pending : Bool := false
  unsent : Bool := false
  masked : Bool := false
  count : Nat := 0
  detail : Option Detail := none
  deriving DecidableEq, Repr

/-! ## The whole controller -/

/-- The state of the controller. `sentU` and `sentF` are what has left each port, in order (notes/assumptions/5.md);
`pending` is the queue of commands still to be taken, first in, first out. -/
structure State where
  /-- supply is applied -/
  powered : Bool := true
  /-- Port U's link is UP (R177) -/
  linkU : Bool := false
  /-- Port F's link is UP (R177) -/
  linkF : Bool := false
  linkChangeU : Bool := false
  linkChangeF : Bool := false
  /-- Port F is ENABLED (R177) -/
  enableF : Bool := false
  enableChangeF : Bool := false
  /-- origin counter (R184) -/
  origin : Half := 0
  ownStation : Nat := 61
  report : Option Nat := none
  policy : Policy := .forward
  notices : Vector Notice 5 := Vector.replicate 5 {}
  statusTag : Byte := 0
  resetCount : Nat := 0
  lossCount : Nat := 0
  runState : RunState := .halted
  stepFlag : Bool := false
  stepConsumed : Bool := false
  stepDone : Bool := false
  stopCause : StopCause := .none
  cycle : CycleNo := 0
  trim : Int := 0
  cycleTrim : Int := 0
  /-- the cycle master is STARTED (R167) -/
  started : Bool := false
  schedule : Vector (List Nat) 32 := Vector.replicate 32 []
  stations : Vector Station 64 := Vector.replicate 64 {}
  /-- the geometry-set flag (R1) -/
  geometrySet : Bool := false
  bridge : AxisGeometry := {}
  trolley : AxisGeometry := {}
  zones : Vector Zone 128 := Vector.replicate 128 {}
  channels : Vector Channel 12 := Vector.replicate 12 {}
  cranes : Vector Crane 4 := Vector.replicate 4 {}
  hold : List HoldEntry := []
  tables : Vector Table 6 := Vector.replicate 6 {}
  arcs : Vector Arc 6 := Vector.replicate 6 {}
  markers : Vector Marker 4 := Vector.replicate 4 {}
  stock : List Piece := []
  /-- stock frame counter (R145) -/
  stockCounter : Half := 0
  sentU : List Sent := []
  sentF : List Sent := []
  pending : List Instr := []
  deriving DecidableEq, Repr

/-- The controller stops with no fault: the manual gives every command an effect in every state, or says that it has
none, so no constructor stands here (notes/assumptions/3.md). -/
inductive Fault where
  deriving DecidableEq, Repr

/-- Why a command has no meaning. -/
inductive Refusal where
  /-- Raised by `exec` alone, for a command whose meaning is not written; safe: nothing is claimed of it. No arm of
  `exec` answers so. -/
  | notModelled (mnemonic : String)
  deriving DecidableEq, Repr

/-- The controller right after power-on: the Power-on column of R16, R34, R63, R91, R109, R123, R140, R159, R176, R186
and R206, with no command waiting and nothing sent. -/
def State.reset : State := {}

end Sys2Proof.Machine
end

