-- ==== Sys2Proof/Machine/Bytes.lean ====
section
/-! DEFINITION. Byte layouts (R187): most significant byte first, two's complement for signed fields; how fields are
written into a payload and read from one. -/

namespace Sys2Proof.Machine

/-- A 1-byte field. -/
def put8 (n : Nat) : List Byte := [BitVec.ofNat 8 n]

/-- A 2-byte field. -/
def put16 (n : Nat) : List Byte := [BitVec.ofNat 8 (n / 256), BitVec.ofNat 8 n]

/-- A signed 3-byte field: positions, targets, look-ahead (R187, R191). -/
def put24 (x : Int) : List Byte :=
  let v := BitVec.ofInt 24 x
  [v.extractLsb' 16 8, v.extractLsb' 8 8, v.extractLsb' 0 8]

/-- A 4-byte field of 32 bits. -/
def put32 (v : BitVec 32) : List Byte :=
  [v.extractLsb' 24 8, v.extractLsb' 16 8, v.extractLsb' 8 8, v.extractLsb' 0 8]

/-- A 4-byte unsigned field. -/
def putNat32 (n : Nat) : List Byte := put32 (BitVec.ofNat 32 n)

/-- A 4-byte signed field. -/
def putInt32 (x : Int) : List Byte := put32 (BitVec.ofInt 32 x)

/-- A flag, in 1 byte (R191). -/
def putFlag (b : Bool) : List Byte := [if b then 1#8 else 0#8]

/-- An optional field: a presence flag, then the field where present (R191). -/
def putOption {α : Type} (put : α → List Byte) : Option α → List Byte
  | none => putFlag false
  | some a => putFlag true ++ put a

/-- A list: a 1-byte count, then the items (R191). -/
def putList {α : Type} (put : α → List Byte) (l : List α) : List Byte := put8 l.length ++ l.flatMap put

/-- Read a 1-byte field. -/
def get8 : List Byte → Option (Nat × List Byte)
  | b :: rest => some (b.toNat, rest)
  | [] => none

/-- Read a flag: any byte but 0 is set (notes/assumptions/8.md). -/
def getFlag : List Byte → Option (Bool × List Byte)
  | b :: rest => some (b != 0#8, rest)
  | [] => none

/-- Read a 2-byte field. -/
def get16 : List Byte → Option (Nat × List Byte)
  | b1 :: b0 :: rest => some (b1.toNat * 256 + b0.toNat, rest)
  | _ => none

/-- Read a signed 3-byte field. -/
def get24 : List Byte → Option (Int × List Byte)
  | b2 :: b1 :: b0 :: rest => some ((b2 ++ b1 ++ b0 : BitVec 24).toInt, rest)
  | _ => none

/-- Read a 4-byte unsigned field. -/
def get32 : List Byte → Option (Nat × List Byte)
  | b3 :: b2 :: b1 :: b0 :: rest => some ((b3 ++ b2 ++ b1 ++ b0 : BitVec 32).toNat, rest)
  | _ => none

/-- Read a signed 1-byte field: the trim (R191). -/
def getInt8 : List Byte → Option (Int × List Byte)
  | b :: rest => some (b.toInt, rest)
  | [] => none

/-- Read an optional field. -/
def getOption {α : Type} (get : List Byte → Option (α × List Byte)) (bytes : List Byte) :
    Option (Option α × List Byte) :=
  match getFlag bytes with
  | none => none
  | some (false, rest) => some (none, rest)
  | some (true, rest) => (get rest).map fun (a, rest') => (some a, rest')

/-- Read exactly `n` bytes. -/
def getBytes (n : Nat) (bytes : List Byte) : Option (List Byte × List Byte) :=
  if n ≤ bytes.length then some (bytes.take n, bytes.drop n) else none

/-- Read `n` items one after another. -/
def getMany {α : Type} (get : List Byte → Option (α × List Byte)) : Nat → List Byte → Option (List α × List Byte)
  | 0, bytes => some ([], bytes)
  | n + 1, bytes =>
    match get bytes with
    | none => none
    | some (a, rest) => (getMany get n rest).map fun (l, rest') => (a :: l, rest')

/-- Bit `k` of a byte, bit 0 the least significant (R187). -/
def bit (b : Byte) (k : Nat) : Bool := b.getLsbD k

/-- The bytes of a hall frame as the Ethernet payload carries them: header, then payload (R187). -/
def Frame.bytes (f : Frame) : List Byte :=
  [f.version, f.kind, f.dst, f.src] ++ put16 f.seq.toNat ++ put16 f.payload.length ++ f.payload

end Sys2Proof.Machine
end

