-- ==== Sys2Proof/Machine/Operands.lean ====
section
/-! DEFINITION. Codes and ranges: every enumeration that a frame, a request or a reply carries by number (R185, R190,
R191, R194), and the ranges that the requests' checks test. -/

namespace Sys2Proof.Machine

/-! ## Frame kinds (R187) -/

def kindCycle : Byte := 0x01#8
def kindPoll : Byte := 0x02#8
def kindSample : Byte := 0x03#8
def kindMove : Byte := 0x10#8
def kindLift : Byte := 0x11#8
def kindLower : Byte := 0x12#8
def kindArrest : Byte := 0x13#8
def kindSeg : Byte := 0x20#8
def kindStrike : Byte := 0x21#8
def kindAnswer : Byte := 0x30#8
def kindRefill : Byte := 0x31#8
def kindNotice : Byte := 0x32#8
def kindStock : Byte := 0x33#8
def kindRequest : Byte := 0x40#8
def kindReply : Byte := 0x41#8

/-! ## Reasons and verdicts (R185) -/

/-- The refusal reasons, in the order of their codes (R185). -/
inductive Reason where
  | notRunning
  | stopping
  | sourceUnknown
  | positionUnknown
  | craneBusy
  | notStill
  | keepOut
  | holdExpired
  | cancelled
  | pieceUnknown
  | pieceNotHere
  | pieceInCut
  | notMarked
  | loadPresent
  | noLoad
  | zoneFull
  | zoneUnusable
  | tableOccupied
  | queueFull
  deriving DecidableEq, Repr

/-- The code of a reason (R185). -/
def Reason.code : Reason → Nat
  | .notRunning => 1
  | .stopping => 2
  | .sourceUnknown => 3
  | .positionUnknown => 4
  | .craneBusy => 5
  | .notStill => 6
  | .keepOut => 7
  | .holdExpired => 8
  | .cancelled => 9
  | .pieceUnknown => 10
  | .pieceNotHere => 11
  | .pieceInCut => 12
  | .notMarked => 13
  | .loadPresent => 14
  | .noLoad => 15
  | .zoneFull => 16
  | .zoneUnusable => 17
  | .tableOccupied => 18
  | .queueFull => 19

/-- The verdict of an ANSWER (R185). -/
inductive Verdict where
  | held
  | released
  | refused
  deriving DecidableEq, Repr

/-- The code of a verdict (R190). -/
def Verdict.code : Verdict → Nat
  | .held => 1
  | .released => 2
  | .refused => 3

/-! ## Results of requests (R191, R194) -/

/-- Result codes of a MGMT_REPLY (R194). -/
inductive Result where
  | ok
  | busy
  | badValue
  | badRequest
  | notFound
  | full
  | inUse
  | denied
  deriving DecidableEq, Repr

/-- The code of a result (R191). -/
def Result.code : Result → Nat
  | .ok => 0
  | .busy => 1
  | .badValue => 2
  | .badRequest => 3
  | .notFound => 4
  | .full => 5
  | .inUse => 6
  | .denied => 7

/-! ## Notices (R190, R197) -/

/-- Index of a class in the notice bank, highest priority first (R197). -/
def NoticeClass.index : NoticeClass → Fin 5
  | .guard => 0
  | .fault => 1
  | .flow => 2
  | .refusal => 3
  | .wear => 4

/-- Class codes 1 to 5 (R190). -/
def NoticeClass.code (k : NoticeClass) : Nat := k.index.val + 1

/-- The five classes, highest priority first (R197). -/
def noticeClasses : List NoticeClass := [.guard, .fault, .flow, .refusal, .wear]

/-- Whether a set of classes carried in one byte names the class (R191). -/
def NoticeClass.isIn (k : NoticeClass) (set : Byte) : Bool := bit set k.index.val

/-! Event codes of the classes (R190). -/

def evTrespass : Nat := 1
def evTrespassKeepOut : Nat := 2
def evArcUnpermitted : Nat := 3
def evLinkLost : Nat := 4
def evAxisSkip : Nat := 1
def evAxisIllegal : Nat := 2
def evAxisDrift : Nat := 3
def evStoppedShort : Nat := 4
def evNotStarted : Nat := 5
def evOpTimeout : Nat := 6
def evAbandoned : Nat := 7
def evLoadUnexpected : Nat := 8
def evLoadDropped : Nat := 9
def evLowerUnverified : Nat := 10
def evArcOverrun : Nat := 11
def evArcNoStart : Nat := 12
def evMarkLost : Nat := 13
def evStationStale : Nat := 14
def evStationSilent : Nat := 15
def evQueueOverrun : Nat := 1
def evHeadError : Nat := 2
def evStall : Nat := 3
def evDoneResync : Nat := 4
def evMarkClipped : Nat := 5
def evRemnantSkipped : Nat := 6
def evWearPierces : Nat := 1
def evWearArc : Nat := 2

/-! Unit codes (R190). -/

def unitCrane (c : Fin 4) : Nat := c.val
def unitTable (t : Fin 6) : Nat := 0x10 + t.val
def unitMarker (m : Fin 4) : Nat := 0x20 + m.val
def unitChannel (a : Fin 12) : Nat := 0x30 + a.val
def unitPortF : Nat := 0x41

/-- The unit code of the unit a station is bound to; only unit-bound kinds have one (R160, R190). -/
def StationKind.unitCode : StationKind → Nat
  | .crane c => unitCrane c
  | .table t => unitTable t
  | .marker m => unitMarker m
  | .none | .source => 0

/-- The unit-bound kinds (R160). -/
def StationKind.isBound : StationKind → Bool
  | .crane _ | .table _ | .marker _ => true
  | .none | .source => false

/-! ## STOCK causes (R145, R190) -/

inductive StockCause where
  | created
  | dropped
  | consumed
  | lifted
  | lowered
  | loadFall
  | placed
  | reserved
  | unreserved
  | amended
  | cutBegun
  | returned
  | marked
  deriving DecidableEq, Repr

/-- The code of a cause (R190). -/
def StockCause.code : StockCause → Nat
  | .created => 1
  | .dropped => 2
  | .consumed => 3
  | .lifted => 4
  | .lowered => 5
  | .loadFall => 6
  | .placed => 7
  | .reserved => 8
  | .unreserved => 9
  | .amended => 10
  | .cutBegun => 11
  | .returned => 12
  | .marked => 13

/-! ## Enumerations of requests and replies (R191: coded 0, 1, 2 and onward in the order their rule lists them) -/

/-- A unit number below a bound, as an index. -/
def asFin (bound n : Nat) : Option (Fin bound) := if h : n < bound then some ⟨n, h⟩ else none

/-- A zone use from its code and table number (R4, R7). -/
def useOf (code table : Nat) : Option Use :=
  match code with
  | 0 => some .none
  | 1 => some .floor
  | 2 => some .rack
  | 3 => some .aisle
  | 4 => (asFin 6 table).map .table
  | 5 => some .keepOut
  | _ => none

/-- A zone use as a reply carries it. -/
def Use.put : Use → List Byte
  | .none => put8 0
  | .floor => put8 1
  | .rack => put8 2
  | .aisle => put8 3
  | .table t => put8 4 ++ put8 t.val
  | .keepOut => put8 5

/-- A decoding mode from its code (R18: TWO or THREE). -/
def modeOf : Nat → Option Mode
  | 0 => some .two
  | 1 => some .three
  | _ => none

def Mode.code : Mode → Nat
  | .two => 0
  | .three => 1

/-- A station kind from its code and unit number (R160). -/
def stationKindOf (code unit : Nat) : Option StationKind :=
  match code with
  | 0 => some .none
  | 1 => (asFin 4 unit).map .crane
  | 2 => (asFin 6 unit).map .table
  | 3 => (asFin 4 unit).map .marker
  | 4 => some .source
  | _ => none

def StationKind.put : StationKind → List Byte
  | .none => put8 0
  | .crane c => put8 1 ++ put8 c.val
  | .table t => put8 2 ++ put8 t.val
  | .marker m => put8 3 ++ put8 m.val
  | .source => put8 4

/-- A side from its code (R160: FIELD or UPSTREAM). -/
def sideOf : Nat → Option Side
  | 0 => some .field
  | 1 => some .upstream
  | _ => none

def Side.code : Side → Nat
  | .field => 0
  | .upstream => 1

def Freshness.code : Freshness → Nat
  | .never => 0
  | .fresh => 1
  | .stale => 2

/-- Run states in a value and in a reply (R190, R191). -/
def RunState.code : RunState → Nat
  | .halted => 0
  | .running => 1
  | .stopping => 2

def StopCause.code : StopCause → Nat
  | .none => 0
  | .stop => 1
  | .stepDone => 2
  | .linkLost => 3

/-- An unlisted policy from its code (R195: FORWARD or DROP). -/
def policyOf : Nat → Option Policy
  | 0 => some .forward
  | 1 => some .drop
  | _ => none

def Policy.code : Policy → Nat
  | .forward => 0
  | .drop => 1

/-- A port from its code (R178: U or F). -/
def portOf : Nat → Option Port
  | 0 => some .u
  | 1 => some .f
  | _ => none

def TableState.code : TableState → Nat
  | .idle => 0
  | .queued => 1
  | .permitWait => 2
  | .active => 3
  | .yielding => 4
  | .headError => 5
  | .fault => 6

/-- Entry kind codes (R189). -/
def EntryKind.code : EntryKind → Byte
  | .plateBegin => 1#8
  | .pierceCut => 2#8
  | .cut => 3#8
  | .traverse => 4#8
  | .markLine => 5#8
  | .markText => 6#8
  | .plateEnd => 7#8
  | .other c => c

/-- The entry kind of a code (R189). -/
def entryKindOf (b : Byte) : EntryKind :=
  if b = 1#8 then .plateBegin
  else if b = 2#8 then .pierceCut
  else if b = 3#8 then .cut
  else if b = 4#8 then .traverse
  else if b = 5#8 then .markLine
  else if b = 6#8 then .markText
  else if b = 7#8 then .plateEnd
  else .other b

/-- The cutting kinds (R70). -/
def EntryKind.isCutting : EntryKind → Bool
  | .pierceCut | .cut | .traverse => true
  | _ => false

/-- The mark kinds (R76). -/
def EntryKind.isMark : EntryKind → Bool
  | .markLine | .markText => true
  | _ => false

/-- The marks in the order of R70. -/
def markOrder : List Mark :=
  [.seqGap, .noMarker, .badFields, .pieceNotHere, .pieceReserved, .plateOpen, .noPlate, .markerUnhomed]

/-- A mark set in one byte, bit k for the k-th mark of R70 (R191). -/
def marksByte (ms : List Mark) : Byte :=
  BitVec.ofNat 8 <| (markOrder.zipIdx.map fun (m, k) => if m ∈ ms then 2 ^ k else 0).sum

/-- Operation kinds: 0 MOVE, 1 LIFT, 2 LOWER (R39). -/
def Operation.code : Operation → Nat
  | .move .. => 0
  | .lift .. => 1
  | .lower => 2

/-- The frame kind that carries an operation (R187). -/
def Operation.frameKind : Operation → Byte
  | .move .. => kindMove
  | .lift .. => kindLift
  | .lower => kindLower

/-- The last result by its code; 0 is none (R38). -/
def OpEnd.code : OpEnd → Nat
  | .complete => 1
  | .stoppedShort => 2
  | .notStarted => 3
  | .opTimeout => 4
  | .abandoned => 5

def Slot.code : Slot → Nat
  | .empty => 0
  | .held .. => 1
  | .inFlight .. => 2

/-- A piece kind from its code (R190). -/
def pieceKindOf : Nat → Option PieceKind
  | 1 => some .plate
  | 2 => some .remnant
  | _ => none

def PieceKind.code : PieceKind → Nat
  | .plate => 1
  | .remnant => 2

def Lifecycle.code : Lifecycle → Nat
  | .available => 1
  | .inCut => 2
  | .awaitingMark => 3

/-- Location kind code and number (R190). -/
def Location.codes : Location → Nat × Nat
  | .zone z => (1, z)
  | .onCrane c => (2, c.val)
  | .onTable t => (3, t.val)
  | .unverified (some z) => (4, z)
  | .unverified none => (5, 0)

/-- A location that PIECE.PUT or PIECE.PLACE may carry: ZONE(z) or ON_TABLE(t) (R148, R153). -/
def placeOf (p : PlaceArg) : Option Location :=
  match p.kind with
  | 1 => some (.zone p.number)
  | 3 => (asFin 6 p.number).map .onTable
  | _ => none

/-! ## Ranges -/

/-- Whether a value lies in a closed range. -/
abbrev within (lo hi x : Nat) : Prop := lo ≤ x ∧ x ≤ hi

/-- The range of axis positions and targets (R1, R29). -/
def positionMin : Int := -8388608
def positionMax : Int := 8388607

/-- Whether a value lies in the position range (R29). -/
abbrev inPositionRange (x : Int) : Prop := positionMin ≤ x ∧ x ≤ positionMax

/-- A value held at the ends of the position range (R29, R129). -/
def saturatePosition (x : Int) : Int := max positionMin (min positionMax x)

/-- The ranges of the eight crane values (R35). -/
abbrev craneConfigInRange (v : CraneConfig) : Prop :=
  v.bridgeMargin ≤ 65535 ∧ v.trolleyMargin ≤ 65535 ∧ within 1 8 v.settle ∧ v.bridgeTolerance ≤ 65535 ∧
  v.trolleyTolerance ≤ 65535 ∧ within 100 60000 v.startLimit ∧ within 100 60000 v.opLimit ∧
  within 100 60000 v.holdLimit

/-- The ranges of the twelve table values (R64), and the values where all hold. -/
def tableConfigOf (v : TableArgs) : Option TableConfig :=
  let marker : Option (Option (Fin 4)) := match v.marker with
    | none => some none
    | some m => (asFin 4 m).map some
  match marker with
  | none => none
  | some marker =>
    if within 1 4 v.window ∧ within 1 23 v.lowWater ∧ within 50 65535 v.stallLimit ∧ v.linger ≤ 10000 ∧
        within 10 5000 v.ignite ∧ within 1 4 v.arcDepth ∧ v.yieldPolicy ≤ 1 ∧ v.markPolicy ≤ 1 ∧
        within 100 30000 v.minSide ∧ v.pierceLimit ≤ 4294967295 ∧ v.arcLimit ≤ 4294967295 then
      some { marker := marker, window := v.window, lowWater := v.lowWater, stallLimit := v.stallLimit,
             linger := v.linger, ignite := v.ignite, arcDepth := v.arcDepth, yieldAllowed := v.yieldPolicy = 0,
             markFirst := v.markPolicy = 0, minSide := v.minSide, pierceLimit := v.pierceLimit,
             arcLimit := v.arcLimit }
    else none

/-- The ranges of a piece's grade, thickness in tenths of a millimetre, width and length (R142). -/
abbrev pieceSizesInRange (grade thickness width length : Nat) : Prop :=
  grade ≤ 255 ∧ within 30 1500 thickness ∧ within 100 30000 width ∧ within 100 30000 length

/-- The units, in ascending order. -/
def allCranes : List (Fin 4) := [0, 1, 2, 3]
def allTables : List (Fin 6) := [0, 1, 2, 3, 4, 5]
def allMarkers : List (Fin 4) := [0, 1, 2, 3]

end Sys2Proof.Machine
end

