-- ==== Sys2Proof/Machine/Ops.lean ====
section
/-! DEFINITION. The named operations that every unit uses: reading and updating a unit's record, sending on a port,
raising a notice, answering a gated frame, looking stations up. -/

namespace Sys2Proof.Machine

/-! ## Records of the units -/

/-- The record at an index of a bank. -/
abbrev bankGet {α : Type} {n : Nat} (v : Vector α n) (i : Fin n) : α := v[i.val]

/-- A bank with the record at one index updated. -/
abbrev bankMod {α : Type} {n : Nat} (v : Vector α n) (i : Fin n) (f : α → α) : Vector α n :=
  v.set i.val (f v[i.val])

def State.crane (s : State) (c : Fin 4) : Crane := bankGet s.cranes c
def State.modCrane (s : State) (c : Fin 4) (f : Crane → Crane) : State := { s with cranes := bankMod s.cranes c f }
def State.table (s : State) (t : Fin 6) : Table := bankGet s.tables t
def State.modTable (s : State) (t : Fin 6) (f : Table → Table) : State := { s with tables := bankMod s.tables t f }
def State.arc (s : State) (t : Fin 6) : Arc := bankGet s.arcs t
def State.modArc (s : State) (t : Fin 6) (f : Arc → Arc) : State := { s with arcs := bankMod s.arcs t f }
def State.marker (s : State) (m : Fin 4) : Marker := bankGet s.markers m
def State.modMarker (s : State) (m : Fin 4) (f : Marker → Marker) : State :=
  { s with markers := bankMod s.markers m f }
def State.channel (s : State) (a : Fin 12) : Channel := bankGet s.channels a
def State.modChannel (s : State) (a : Fin 12) (f : Channel → Channel) : State :=
  { s with channels := bankMod s.channels a f }
def State.notice (s : State) (k : NoticeClass) : Notice := bankGet s.notices k.index
def State.setNotice (s : State) (k : NoticeClass) (n : Notice) : State :=
  { s with notices := bankMod s.notices k.index fun _ => n }
def State.scheduleEntry (s : State) (e : Fin 32) : List Nat := bankGet s.schedule e

/-- The record of a station number; a number above 63 has none, and reads as the default record (R160). -/
def State.station (s : State) (n : Nat) : Station := if h : n < 64 then bankGet s.stations ⟨n, h⟩ else {}

def State.modStation (s : State) (n : Nat) (f : Station → Station) : State :=
  if h : n < 64 then { s with stations := bankMod s.stations ⟨n, h⟩ f } else s

/-- The record of a zone number; the Zone Table holds 128 (R4). -/
def State.zone (s : State) (z : Nat) : Zone := if h : z < 128 then bankGet s.zones ⟨z, h⟩ else {}

def State.modZone (s : State) (z : Nat) (f : Zone → Zone) : State :=
  if h : z < 128 then { s with zones := bankMod s.zones ⟨z, h⟩ f } else s

/-- One update on every zone of a list. -/
def State.modZones (s : State) (zs : List Nat) (f : Zone → Zone) : State := zs.foldl (fun s z => s.modZone z f) s

/-- The bridge and trolley channels of a crane: A(2c) and A(2c + 1) (R17). -/
def bridgeOf (c : Fin 4) : Fin 12 := ⟨2 * c.val, by omega⟩
def trolleyOf (c : Fin 4) : Fin 12 := ⟨2 * c.val + 1, by omega⟩

/-- The carriage channel of a marker: A8 to A11 (R17). -/
def carriageOf (m : Fin 4) : Fin 12 := ⟨8 + m.val, by omega⟩

/-! ## Stations -/

/-- The station bound to a unit: the lowest number whose record has that kind; at most one has (R160, R161). -/
def State.stationOf (s : State) (k : StationKind) : Option Nat :=
  (List.range 64).find? fun n => (s.station n).kind = k

/-- Whether the station bound to a unit is FRESH (R33). -/
def State.isFresh (s : State) (k : StationKind) : Bool :=
  match s.stationOf k with
  | none => false
  | some n => (s.station n).freshness = .fresh

/-- A crane's position is valid when both channels are HOMED and its station is FRESH (R33). -/
def State.craneValid (s : State) (c : Fin 4) : Bool :=
  (s.channel (bridgeOf c)).homed && (s.channel (trolleyOf c)).homed && s.isFresh (.crane c)

/-- A marker's position is valid when its carriage channel is HOMED and its station is FRESH (R33). -/
def State.markerValid (s : State) (m : Fin 4) : Bool := (s.channel (carriageOf m)).homed && s.isFresh (.marker m)

/-- Controller ready, which reads no while the controller station is NEVER or STALE (R79). -/
def State.controllerReady (s : State) (t : Fin 6) : Bool := (s.table t).ready && s.isFresh (.table t)

/-- Marker ready, which reads no while the station is not FRESH (R128). -/
def State.markerReady (s : State) (m : Fin 4) : Bool := (s.marker m).ready && s.isFresh (.marker m)

/-- A marker's bound table: the table whose bound marker field names it (R66). -/
def State.boundTable (s : State) (m : Fin 4) : Option (Fin 6) :=
  allTables.find? fun t => (s.table t).config.marker = some m

/-- The port a frame for a station leaves on: its side, or the port given where its kind is NONE (R184). -/
def State.sidePort (s : State) (n : Nat) (otherwise : Port) : Port :=
  if (s.station n).kind = .none then otherwise
  else match (s.station n).side with
    | .field => .f
    | .upstream => .u

/-! ## Sending (R180, R183, R184) -/

/-- Whether a frame formed for a port leaves it: the link is UP, and Port F is ENABLED (R184). -/
def State.portOpen (s : State) : Port → Bool
  | .u => s.linkU
  | .f => s.enableF && s.linkF

/-- A frame formed for a port leaves it, or is dropped there (R184). -/
def State.transmit (s : State) (p : Port) (x : Sent) : State :=
  match p with
  | .u => if s.portOpen .u then { s with sentU := s.sentU ++ [x] } else s
  | .f => if s.portOpen .f then { s with sentF := s.sentF ++ [x] } else s

/-- A frame of the controller's own, version 1, from its own number, under the given sequence (R184). -/
def State.ownFrame (s : State) (kind dst : Byte) (seq : Half) (payload : List Byte) : Frame :=
  { ethDst := Config.broadcastAddress, ethSrc := Config.ethernetAddress, version := 1#8, kind := kind, dst := dst,
    src := BitVec.ofNat 8 s.ownStation, seq := seq, payload := payload }

/-- Send a frame that takes the next value of the origin counter (R184). -/
def State.originate (s : State) (p : Port) (kind dst : Byte) (payload : List Byte) : State :=
  ({ s with origin := s.origin + 1 }).transmit p (.hall (s.ownFrame kind dst (s.origin + 1) payload))

/-- Send a frame of the controller's own to a station number, if there is one. -/
def State.originateTo (s : State) (p : Port) (kind : Byte) (dst : Option Nat) (payload : List Byte) : State :=
  match dst with
  | none => s
  | some n => s.originate p kind (BitVec.ofNat 8 n) payload

/-- Send an ARREST of the controller's own on Port F to the station of a unit, if one is bound (R50, R66, R84). -/
def State.sendArrest (s : State) (k : StationKind) : State := s.originateTo .f kindArrest (s.stationOf k) []

/-! ## Notices (R197, R198) -/

/-- The four value bytes of a detail: unsigned for WEAR, signed for the others (R190). -/
def detailValue (k : NoticeClass) (v : Int) : List Byte :=
  match k with
  | .wear => putNat32 v.toNat
  | _ => putInt32 v

/-- The payload of a NOTICE frame: class, last detail and count as they stand (R190, R198). -/
def noticePayload (k : NoticeClass) (n : Notice) : List Byte :=
  let d := n.detail.getD ⟨0, 0, 0⟩
  put8 k.code ++ put8 d.code ++ put8 d.unit ++ detailValue k d.value ++ put8 n.count

/-- Form the NOTICE frame of a class and clear its unsent flag (R198). -/
def State.sendNotice (s : State) (k : NoticeClass) : State :=
  let n := { s.notice k with unsent := false }
  (s.setNotice k n).originateTo .u kindNotice s.report (noticePayload k n)

/-- A NOTICE frame formed while no report station is set takes its origin counter value and is dropped (R184); no frame is
sent, and its class is unsent (R197; notes/assumptions/28.md). -/
def State.formUnreported (s : State) (k : NoticeClass) (n : Notice) : State :=
  ({ s with origin := s.origin + 1 }).setNotice k { n with pending := true, unsent := true }

/-- An occurrence of a class (R197). -/
def State.raise (s : State) (k : NoticeClass) (code unit : Nat) (value : Int) : State :=
  let n := s.notice k
  let n' : Notice := { n with count := min 255 (n.count + 1), detail := some ⟨code, unit, value⟩ }
  if n.pending then s.setNotice k n'
  else if n.masked then s.setNotice k { n' with pending := true, unsent := true }
  else if s.report.isNone then s.formUnreported k n'
  else (s.setNotice k { n' with pending := true }).sendNotice k

/-- Send the frames of the classes of a list that are pending, unsent and unmasked, if a report station is set
(R198). -/
def State.sendUnsent (s : State) (classes : List NoticeClass) : State :=
  classes.foldl (fun s k =>
    let n := s.notice k
    if n.pending && n.unsent && !n.masked && s.report.isSome then s.sendNotice k else s) s

/-! ## ANSWER frames (R185) -/

/-- The payload of an ANSWER (R190); reason code 0 is none. -/
def answerPayload (kind : Byte) (seq : Half) (verdict : Verdict) (reason : Option Reason) : List Byte :=
  [kind] ++ put16 seq.toNat ++ put8 verdict.code ++ put8 ((reason.map Reason.code).getD 0)

/-- An ANSWER to the source of a gated frame, under that frame's sequence; on its source's side, or on the port the
gated frame arrived on where the source's kind is NONE (R184, R185). -/
def State.answer (s : State) (kind src : Byte) (seq : Half) (arrival : Port) (verdict : Verdict)
    (reason : Option Reason) : State :=
  s.transmit (s.sidePort src.toNat arrival) (.hall (s.ownFrame kindAnswer src seq (answerPayload kind seq verdict reason)))

/-- The ANSWER that the record of a held or granted operation calls for (R47). -/
def State.answerOp (s : State) (op : OpRecord) (verdict : Verdict) (reason : Option Reason) : State :=
  s.answer op.operation.frameKind op.source op.seq op.port verdict reason

/-- A REFUSAL notice: the reason as event code, the unit, the source station as value (R46, R71). -/
def State.raiseRefusal (s : State) (reason : Reason) (unit : Nat) (src : Byte) : State :=
  s.raise .refusal reason.code unit src.toNat

/-! ## Management replies (R191, R193) -/

/-- What a request's handling answers: result, detail (a stock reason's code, or 0) and reply data. -/
structure Reply where
  result : Result
  detail : Nat := 0
  data : List Byte := []
  deriving DecidableEq, Repr

/-- Send the MGMT_REPLY of a request: to the requester, out of the port the request came in on, with the request's
sequence (R184, R193). -/
def State.reply (s : State) (r : Req) (code : Half) (a : Reply) : State :=
  s.transmit r.port (.hall (s.ownFrame kindReply r.src r.seq
    (put16 code.toNat ++ put8 a.result.code ++ put8 a.detail ++ a.data)))

end Sys2Proof.Machine
end

