-- ==== Sys2Proof/Machine/Flags.lean ====
section
/-! DEFINITION. The status tag and the items it watches (R202). -/

namespace Sys2Proof.Machine

/-- The pending flags of the five classes, highest priority first. -/
def State.pendingFlags (s : State) : List Bool := noticeClasses.map fun k => (s.notice k).pending

/-- How many flags of a list differ from those of another. -/
def countChanges : List Bool → List Bool → Nat
  | a :: as, b :: bs => (if a = b then 0 else 1) + countChanges as bs
  | _, _ => 0

/-- The watched flags: link states, link-change flags, Port F's enable state and enable-change flag, and the pending
flag of each class (R202). -/
def State.watchedFlags (s : State) : List Bool :=
  [s.linkU, s.linkF, s.linkChangeU, s.linkChangeF, s.enableF, s.enableChangeF] ++ s.pendingFlags

/-- How many watched items differ between two states: the run state and the watched flags (R202). -/
def watchedChanges (before after : State) : Nat :=
  (if before.runState = after.runState then 0 else 1) + countChanges before.watchedFlags after.watchedFlags

/-- The state after an event, its status tag raised by one for each watched item that the event changed (R202). -/
def State.tagged (before after : State) : State :=
  { after with statusTag := before.statusTag + BitVec.ofNat 8 (watchedChanges before after) }

/-- The set of classes with a property, in one byte, bit k for the class of code k + 1 (R191). -/
def State.classSet (s : State) (p : Notice → Bool) : Byte :=
  BitVec.ofNat 8 <| (noticeClasses.map fun k => if p (s.notice k) then 2 ^ k.index.val else 0).sum

end Sys2Proof.Machine
end

