-- ==== Sys2Proof/Machine/Axis.lean ====
section
/-! DEFINITION. What an axis channel does with a sample (R21 to R31): filter, decode, count, home. -/

namespace Sys2Proof.Machine

/-- The raw levels of one channel in a sample (R188): bit 0 S1, bit 1 S2, bit 2 S3, bit 3 reference. -/
structure RawLevels where
  s1 : Bool
  s2 : Bool
  s3 : Bool
  ref : Bool
  deriving DecidableEq, Repr

/-- The levels in a sample byte (R188). -/
def rawLevels (b : Byte) : RawLevels := ⟨bit b 0, bit b 1, bit b 2, bit b 3⟩

/-- One sample at a filtered level of depth D (R21). -/
def Level.take (l : Level) (depth : Nat) (raw : Bool) : Level :=
  if raw = l.level then { l with run := 0 }
  else if depth ≤ l.run + 1 then { level := raw, run := 0 }
  else { l with run := l.run + 1 }

/-- A level set to a raw level without filtering (R22). -/
def Level.set (raw : Bool) : Level := { level := raw, run := 0 }

/-- The accepted phase state; S3 reads 0 in TWO mode (R21, R24, R25). -/
def Channel.phase (ch : Channel) : Phase :=
  ⟨ch.l1.level, ch.l2.level, match ch.mode with | .two => false | .three => ch.l3.level⟩

/-- The next state in the forward order of TWO mode: 00, 10, 11, 01 (R24). -/
def Phase.nextTwo (p : Phase) : Phase :=
  match p.s1, p.s2 with
  | false, false => ⟨true, false, false⟩
  | true, false => ⟨true, true, false⟩
  | true, true => ⟨false, true, false⟩
  | false, true => ⟨false, false, false⟩

/-- The valid states of THREE mode: all but 000 and 111 (R25). -/
def Phase.valid (p : Phase) : Bool := !(p.s1 == p.s2 && p.s2 == p.s3)

/-- The next state in the forward order of THREE mode: 100, 110, 010, 011, 001, 101 (R25). -/
def Phase.nextThree (p : Phase) : Phase :=
  match p.s1, p.s2, p.s3 with
  | true, false, false => ⟨true, true, false⟩
  | true, true, false => ⟨false, true, false⟩
  | false, true, false => ⟨false, true, true⟩
  | false, true, true => ⟨false, false, true⟩
  | false, false, true => ⟨true, false, true⟩
  | true, false, true => ⟨true, false, false⟩
  | _, _, _ => p

/-- The next state in the forward order of a mode. -/
def Phase.next (mode : Mode) (p : Phase) : Phase :=
  match mode with
  | .two => p.nextTwo
  | .three => p.nextThree

/-- What a change of the phase state means (R24, R25). -/
inductive Judgement where
  | same
  | forward
  | reverse
  | skip
  deriving DecidableEq, Repr

/-- Judge the change from one state to another, both valid in THREE mode (R24, R25). -/
def judge (mode : Mode) (before after : Phase) : Judgement :=
  if after = before then .same
  else if after = before.next mode then .forward
  else if before = after.next mode then .reverse
  else .skip

/-- An occurrence of the FAULT class that a channel raises: event code and value. -/
abbrev ChannelEvent := Nat × Int

/-- A step, held at the ends of the position range (R28, R29). -/
def Channel.step (ch : Channel) (forward : Bool) : Channel :=
  if forward then
    { ch with position := min positionMax (ch.position + 1), forward := ch.forward + 1,
              limit := ch.limit || decide (positionMax ≤ ch.position) }
  else
    { ch with position := max positionMin (ch.position - 1), backward := ch.backward + 1,
              limit := ch.limit || decide (ch.position ≤ positionMin) }

/-- A SKIP: UNHOMED, with its notice; no step (R27). -/
def Channel.skip (ch : Channel) : Channel × List ChannelEvent :=
  ({ ch with homed := false }, [(evAxisSkip, ch.position)])

/-- The effect of a judged change (R24 to R27). -/
def Channel.judged (ch : Channel) : Judgement → Channel × List ChannelEvent
  | .same => (ch, [])
  | .forward => (ch.step true, [])
  | .reverse => (ch.step false, [])
  | .skip => ch.skip

/-- The value of an illegal state in its notice: 000 or 111 (R26). -/
def Phase.value (p : Phase) : Int :=
  (if p.s1 then 4 else 0) + (if p.s2 then 2 else 0) + (if p.s3 then 1 else 0)

/-- An illegal accepted state: an episode begins with its notice, or goes on without one (R26). -/
def Channel.beIllegal (ch : Channel) : Channel × List ChannelEvent :=
  if ch.illegal then (ch, []) else ({ ch with illegal := true }, [(evAxisIllegal, ch.phase.value)])

/-- Decode the accepted phase state after filtering, against the accepted state before it (R24 to R26). -/
def Channel.decode (ch : Channel) (before : Phase) : Channel × List ChannelEvent :=
  let after := ch.phase
  match ch.mode with
  | .two => ({ ch with lastValid := some after }).judged (judge .two before after)
  | .three =>
    if after.valid then
      let ch' := { ch with illegal := false, lastValid := some after }
      match ch.lastValid with
      | none => (ch', [])
      | some last => ch'.judged (judge .three last after)
    else ch.beIllegal

/-- Homing on an accepted rising edge of the reference, the drift measured first where the channel is HOMED
(R30, R31). -/
def Channel.home (ch : Channel) : Channel × List ChannelEvent :=
  let drift := (ch.position - ch.reference).natAbs
  let ch' := { ch with position := ch.reference, homed := true, limit := false }
  if ch.homed then
    ({ ch' with lastDrift := drift },
     if 0 < ch.tolerance ∧ ch.tolerance < drift then [(evAxisDrift, (drift : Int))] else [])
  else (ch', [])

/-- Every filtered level set to its raw level, every run 0; S3 is filtered in THREE mode only (R21, R22). -/
def Channel.setLevels (ch : Channel) (raw : RawLevels) : Channel :=
  { ch with l1 := .set raw.s1, l2 := .set raw.s2,
            l3 := .set (match ch.mode with | .two => false | .three => raw.s3), lref := .set raw.ref }

/-- The first sample of an unprimed channel primes it (R22). -/
def Channel.prime (ch : Channel) (raw : RawLevels) : Channel × List ChannelEvent :=
  let ch' := { ch.setLevels raw with primed := true, resume := false }
  match ch.mode with
  | .two => ({ ch' with lastValid := some ch'.phase }, [])
  | .three =>
    if ch'.phase.valid then ({ ch' with lastValid := some ch'.phase, illegal := false }, [])
    else ({ ch' with illegal := true }, [(evAxisIllegal, ch'.phase.value)])

/-- The first sample after the station was STALE resumes the channel: the phase state is compared with the state held,
with no step counted and no reference edge (R22). -/
def Channel.resumed (ch : Channel) (raw : RawLevels) : Channel × List ChannelEvent :=
  let ch' := { ch.setLevels raw with resume := false }
  let after := ch'.phase
  match ch.mode with
  | .two =>
    let kept := { ch' with lastValid := some after }
    if after = ch.phase then (kept, []) else kept.skip
  | .three =>
    if after.valid then
      let kept := { ch' with illegal := false, lastValid := some after }
      match ch.lastValid with
      | none => (kept, [])
      | some last => if after = last then (kept, []) else kept.skip
    else ch'.beIllegal

/-- The levels filtered (R21). -/
def Channel.filter (ch : Channel) (raw : RawLevels) : Channel :=
  { ch with l1 := ch.l1.take ch.depth raw.s1, l2 := ch.l2.take ch.depth raw.s2,
            l3 := match ch.mode with | .two => {} | .three => ch.l3.take ch.depth raw.s3,
            lref := ch.lref.take ch.depth raw.ref }

/-- One sample at a channel (R22, R23). -/
def Channel.sample (ch : Channel) (raw : RawLevels) : Channel × List ChannelEvent :=
  if !ch.primed then ch.prime raw
  else if ch.resume then ch.resumed raw
  else
    let filtered := ch.filter raw
    let (decoded, events) := filtered.decode ch.phase
    if !ch.lref.level && filtered.lref.level then
      let (homed, more) := decoded.home
      (homed, events ++ more)
    else (decoded, events)

/-- A channel takes a sample, and its notices are raised with the channel as unit (R23, R26, R27, R31). -/
def State.sampleChannel (s : State) (a : Fin 12) (raw : RawLevels) : State :=
  let (ch, events) := (s.channel a).sample raw
  events.foldl (fun s (code, value) => s.raise .fault code (unitChannel a) value) (s.modChannel a fun _ => ch)

/-- A channel unprimed by a change of its station: UNHOMED, its last valid state none, its mark for resumption cleared
(R17, R22, R162). -/
def Channel.unprime (ch : Channel) : Channel :=
  { ch with homed := false, primed := false, resume := false, lastValid := none }

/-- The channel after RESET RUNTIME (R34). -/
def Channel.runtimeReset (ch : Channel) : Channel :=
  { mode := ch.mode, depth := ch.depth, reference := ch.reference, tolerance := ch.tolerance, pitch := ch.pitch }

end Sys2Proof.Machine
end

