-- ==== Sys2Proof/Machine/Zones.lean ====
section
/-! DEFINITION. The zone arithmetic (R10 to R15): indices, ranges, margins, rectangles, hook zone; and the claim and
permit fields of the zone records (R4, R92 to R94). -/

namespace Sys2Proof.Machine

/-! ## Indices and ranges (R10, R11) -/

/-- The index of a coordinate: floor((x − O) / W) (R10). A pitch is at least 1 once the geometry is set. -/
def AxisGeometry.index (g : AxisGeometry) (x : Int) : Int := (x - g.origin) / (g.pitch : Int)

/-- The index range of an interval, as its first and last index inside the hall, or none where it is empty (R11). -/
def AxisGeometry.range (g : AxisGeometry) (a b : Int) : Option (Nat × Nat) :=
  if g.index b < 0 ∨ (g.zones : Int) - 1 < g.index a then none
  else some ((max (g.index a) 0).toNat, (min (g.index b) ((g.zones : Int) - 1)).toNat)

/-- The hall's zone count; 0 while the geometry is unset (R1). -/
def State.zoneCount (s : State) : Nat := if s.geometrySet then s.bridge.zones * s.trolley.zones else 0

/-- The zone numbers of a rectangle, in ascending order; none where either range is empty (R13). -/
def rectangle (columns : Nat) (cols rows : Option (Nat × Nat)) : List Nat :=
  match cols, rows with
  | some (c0, c1), some (r0, r1) =>
    (List.range' r0 (r1 + 1 - r0)).flatMap fun r => (List.range' c0 (c1 + 1 - c0)).map fun c => r * columns + c
  | _, _ => []

/-- The rectangle of zones that two intervals cover; empty while the geometry is unset (R1, R13). -/
def State.zonesOver (s : State) (b0 b1 t0 t1 : Int) : List Nat :=
  if s.geometrySet then rectangle s.bridge.zones (s.bridge.range b0 b1) (s.trolley.range t0 t1) else []

/-! ## Margins (R12) -/

/-- A load radius in counts: ceil(r × 1,000 / p) (R12). -/
def radiusCounts (radius pitch : Nat) : Nat := (radius * 1000 + (pitch - 1)) / pitch

/-- A margin: hook margin plus load radius in counts, saturating at 65,535 (R12). -/
def marginOf (hook radius pitch : Nat) : Nat := min 65535 (hook + radiusCounts radius pitch)

/-- The load radius of a piece: ceil(max(width, length) / 2) (R12). -/
def Piece.radius (p : Piece) : Nat := (max p.width p.length + 1) / 2

/-- The record with an ID, if there is one (R141). -/
def State.piece (s : State) (id : Nat) : Option Piece := s.stock.find? fun p => p.id = id

/-- The radius of a crane's load as it stands (R12). -/
def State.loadRadius (s : State) (c : Fin 4) : Nat :=
  match (s.crane c).load with
  | .none => 0
  | .piece id => ((s.piece id).map Piece.radius).getD 0
  | .untracked r => r

/-- The radius that a LIFT will take up: the named piece's, read as it stands, or the saved radius where the piece ID is
0 or its record is gone (R12, R44). -/
def State.liftRadius (s : State) (id saved : Nat) : Nat :=
  if id = 0 then saved else ((s.piece id).map Piece.radius).getD saved

/-- The two margins of a crane, bridge then trolley, for a load radius (R12). -/
def State.margins (s : State) (c : Fin 4) (radius : Nat) : Nat × Nat :=
  (marginOf (s.crane c).config.bridgeMargin radius (s.channel (bridgeOf c)).pitch,
   marginOf (s.crane c).config.trolleyMargin radius (s.channel (trolleyOf c)).pitch)

/-! ## Footprint, sweep, hook zone (R13, R14) -/

/-- The positions of a crane, bridge then trolley. -/
def State.cranePosition (s : State) (c : Fin 4) : Int × Int :=
  ((s.channel (bridgeOf c)).position, (s.channel (trolleyOf c)).position)

/-- The footprint of a crane at its position, for a load radius (R13). -/
def State.footprint (s : State) (c : Fin 4) (radius : Nat) : List Nat :=
  let (pb, pt) := s.cranePosition c
  let (mb, mt) := s.margins c radius
  s.zonesOver (pb - mb) (pb + mb) (pt - mt) (pt + mt)

/-- The sweep of a crane from its position to a target, for a load radius (R13). -/
def State.sweep (s : State) (c : Fin 4) (radius : Nat) (tb tt : Int) : List Nat :=
  let (pb, pt) := s.cranePosition c
  let (mb, mt) := s.margins c radius
  s.zonesOver (min pb tb - mb) (max pb tb + mb) (min pt tt - mt) (max pt tt + mt)

/-- The hook zone of a crane, where it has one (R14). -/
def State.hookZone (s : State) (c : Fin 4) : Option Nat :=
  let (pb, pt) := s.cranePosition c
  let col := s.bridge.index pb
  let row := s.trolley.index pt
  if s.geometrySet = true ∧ 0 ≤ col ∧ col < s.bridge.zones ∧ 0 ≤ row ∧ row < s.trolley.zones then
    some (row.toNat * s.bridge.zones + col.toNat)
  else none

/-! ## Zone tests (R5, R15) -/

/-- Whether a use is usable (R5). -/
def Use.usable : Use → Bool
  | .floor | .rack | .aisle | .table _ => true
  | .none | .keepOut => false

/-- Whether pieces may be stored in a zone of this use (R5). -/
def Use.stores : Use → Bool
  | .floor | .rack => true
  | _ => false

/-- A zone is free for crane c: usable, claimed by none or c, under no permit (R15). -/
def Zone.freeFor (z : Zone) (c : Fin 4) : Bool :=
  z.use.usable && (z.claim.isNone || z.claim == some c) && z.permit.isNone

/-- How an admission classifies its required set (R15). -/
inductive ZoneCheck where
  | keepOut
  | held
  | free
  deriving DecidableEq, Repr

/-- Classify a required set for a crane, in the order of R15. -/
def State.classify (s : State) (c : Fin 4) (g : List Nat) : ZoneCheck :=
  if g.any fun z => !(s.zone z).use.usable then .keepOut
  else if g.any fun z => !(s.zone z).freeFor c then .held
  else .free

/-- The permit set of a table: the addressable zones of use TABLE(t), ascending (R5). -/
def State.permitSet (s : State) (t : Fin 6) : List Nat :=
  (List.range s.zoneCount).filter fun z => (s.zone z).use = .table t

/-- A permit set is grantable when every zone of it is free of cranes (R15). -/
def State.permitGrantable (s : State) (t : Fin 6) : Bool :=
  (s.permitSet t).all fun z => (s.zone z).claim.isNone

/-! ## Claims and permits (R46, R49, R93, R94) -/

/-- The zones that a crane claims, ascending. -/
def State.claimedBy (s : State) (c : Fin 4) : List Nat :=
  (List.range 128).filter fun z => (s.zone z).claim = some c

/-- Bring a crane's count of zones claimed up to date (R38, R46). -/
def State.countClaims (s : State) (c : Fin 4) : State :=
  s.modCrane c fun k => { k with claimed := (s.claimedBy c).length }

/-- Every zone of a set gets claim holder c (R46). -/
def State.takeClaims (s : State) (c : Fin 4) (g : List Nat) : State :=
  (s.modZones g fun z => { z with claim := some c }).countClaims c

/-- Every zone of the permit set gets permit holder t, and permit held becomes yes (R93). -/
def State.takePermit (s : State) (t : Fin 6) : State :=
  (s.modZones (s.permitSet t) fun z => { z with permit := some t }).modTable t fun x => { x with permit := true }

/-- The release of a permit, without the evaluation that follows: the permit holder of every zone that carries t is
cleared, and permit held becomes no (R94). -/
def State.dropPermit (s : State) (t : Fin 6) : State :=
  (s.modZones (List.range 128) fun z => if z.permit = some t then { z with permit := none } else z).modTable t
    fun x => { x with permit := false }

end Sys2Proof.Machine
end

