-- ==== Sys2Proof/Machine/Stock.lean ====
section
/-! DEFINITION. The Stock Table owner (R141 to R146): records, location changes with the zones' stored counts, STOCK
frames, and the changes that cranes, tables and markers bring (R134, R155 to R158). -/

namespace Sys2Proof.Machine

/-- The 19-byte piece record block (R190). A reservation tag of none is sent as 0. -/
def Piece.block (p : Piece) : List Byte :=
  let (locationKind, locationNumber) := p.location.codes
  put16 p.id ++ put8 p.kind.code ++ put16 (p.parent.getD 0) ++ put8 p.grade ++ put16 p.thickness ++ put16 p.width ++
  put16 p.length ++ put8 p.lifecycle.code ++ put8 locationKind ++ put8 locationNumber ++
  put8 ((if p.tag.isSome then 1 else 0) + (if p.marked then 2 else 0) + (if p.partlyCut then 4 else 0) +
        (if p.changed then 8 else 0)) ++
  put16 (p.tag.getD 0) ++ [p.revision]

/-- Form a STOCK frame: it takes the next value of the stock frame counter, and is sent to the report station on Port U
if one is set (R145, R184). -/
def State.stockFrame (s : State) (cause : StockCause) (scrap : Nat) (p : Piece) : State :=
  let s' := { s with stockCounter := s.stockCounter + 1 }
  match s.report with
  | none => s'
  | some n => s'.transmit .u
      (.hall (s.ownFrame kindStock (BitVec.ofNat 8 n) (s.stockCounter + 1) (put8 cause.code ++ put8 scrap ++ p.block)))

/-- A record leaves a location: the stored count of a zone falls by 1 (R6). -/
def State.leavePlace (s : State) : Location → State
  | .zone z => s.modZone z fun k => { k with stored := k.stored - 1 }
  | _ => s

/-- A record comes to a location: the stored count of a zone rises by 1 (R6). -/
def State.enterPlace (s : State) : Location → State
  | .zone z => s.modZone z fun k => { k with stored := k.stored + 1 }
  | _ => s

/-- The stored counts follow a record's move (R6). -/
def State.movePlace (s : State) (before after : Location) : State :=
  if before = after then s else (s.leavePlace before).enterPlace after

/-- Insert a record in its place by ID (R141). -/
def insertPiece (p : Piece) : List Piece → List Piece
  | [] => [p]
  | q :: rest => if p.id < q.id then p :: q :: rest else q :: insertPiece p rest

/-- A record after a change: revision + 1, changed flag set (R144). -/
def Piece.touched (p : Piece) : Piece := { p with revision := p.revision + 1, changed := true }

/-- Replace the record of an ID. -/
def State.writePiece (s : State) (id : Nat) (p : Piece) : State :=
  { s with stock := s.stock.map fun q => if q.id = id then p else q }

/-- Change a record as one change: its fields, its revision and changed flag, the stored counts, and its STOCK frame
(R144, R145). Nothing happens where the ID has no record. -/
def State.changePiece (s : State) (id : Nat) (cause : StockCause) (f : Piece → Piece) : State :=
  match s.piece id with
  | none => s
  | some p =>
    let p' := (f p).touched
    ((s.writePiece id p').movePlace p.location p'.location).stockFrame cause 0 p'

/-- Create a record: revision 0, changed flag set, and its STOCK frame (R144, R148, R158). -/
def State.createPiece (s : State) (p : Piece) : State :=
  (({ s with stock := insertPiece p s.stock }).enterPlace p.location).stockFrame .created 0 p

/-- Remove a record; the frame carries it as it stood with its revision advanced (R144, R145). The frame's changed bit is
left as it stood: DESIGN CHOICE, R144 has a change, a removal too, set the flag (notes/assumptions/54.md). -/
def State.removePiece (s : State) (id : Nat) (cause : StockCause) (scrap : Nat) : State :=
  match s.piece id with
  | none => s
  | some p =>
    (({ s with stock := s.stock.filter fun q => q.id ≠ id }).leavePlace p.location).stockFrame cause scrap
      { p with revision := p.revision + 1 }

/-- Whether a piece is located ON_TABLE(t) (R45, R148). -/
def State.tableOccupied (s : State) (t : Fin 6) : Bool := s.stock.any fun p => p.location = .onTable t

/-- Whether a zone's use and stored count let a piece come to it (R6, R45). -/
def Zone.hasRoom (z : Zone) : Bool := z.use.stores && decide (z.stored < z.capacity)

/-- Where a fall that completes a LOWER lays a tracked piece (R56). -/
def State.lowerPlace (s : State) (c : Fin 4) : Location :=
  match if s.craneValid c then s.hookZone c else none with
  | none => .unverified none
  | some z =>
    match (s.zone z).use with
    | .floor | .rack => if (s.zone z).hasRoom then .zone z else .unverified (some z)
    | .table t => if s.tableOccupied t then .unverified (some z) else .onTable t
    | .aisle | .keepOut | .none => .unverified (some z)

/-- Where an unexpected fall leaves a piece (R59). -/
def State.fallPlace (s : State) (c : Fin 4) : Location :=
  .unverified (if s.craneValid c then s.hookZone c else none)

/-- The record's effect of a text mark (R134). -/
def State.markPiece (s : State) (id : Nat) : State :=
  match s.piece id with
  | none => s
  | some p =>
    match p.lifecycle with
    | .awaitingMark => s.changePiece id .marked fun p => { p with lifecycle := .available, marked := true }
    | .available | .inCut => if p.marked then s else s.changePiece id .marked fun p => { p with marked := true }

/-- A plate in cut is returned to AVAILABLE with its partly-cut flag set (R157). -/
def State.returnPlate (s : State) (plate : Option Nat) : State :=
  match plate with
  | none => s
  | some id => s.changePiece id .returned fun p => { p with lifecycle := .available, partlyCut := true }

/-- One rectangle of a PLATE_END: scrap, skipped, or a remnant (R158). -/
def State.takeRect (t : Fin 6) (minSide : Nat) (markFirst : Bool) (plate : Piece) (s : State) (r : Rect) : State :=
  if r.width < minSide ∨ r.length < minSide then s
  else if r.id = 0 ∨ 30000 < r.width ∨ 30000 < r.length ∨ (s.piece r.id).isSome ∨ 256 ≤ s.stock.length then
    s.raise .flow evRemnantSkipped (unitTable t) r.id
  else
    s.createPiece
      { id := r.id, kind := .remnant, parent := some plate.id, grade := plate.grade, thickness := plate.thickness,
        width := r.width, length := r.length, lifecycle := if markFirst then .awaitingMark else .available,
        location := .onTable t, tag := none, marked := false, partlyCut := false, revision := 0, changed := true }

/-- The Stock Table owner's work at a PLATE_END: scrap count, consumption, remnants in list order (R158). -/
def State.consumePlate (s : State) (t : Fin 6) (plate : Nat) (rects : List Rect) : State :=
  let config := (s.table t).config
  match s.piece plate with
  | none => s
  | some p =>
    let scrap := (rects.filter fun r => decide (r.width < config.minSide ∨ r.length < config.minSide)).length
    rects.foldl (State.takeRect t config.minSide config.markFirst p) (s.removePiece plate .consumed scrap)

end Sys2Proof.Machine
end

