-- ==== Sys2Proof/Machine/Marking.lean ====
section
/-! DEFINITION. The marker units' operations: dot arithmetic (R129), line and text records (R130, R133), feeding (R131),
the plate edge (R135 to R137), ended marks (R139). -/

namespace Sys2Proof.Machine

/-! ## Dot arithmetic (R129) -/

/-- The k-th planned dot of a span of n dots over l counts from base b, in closed form (R129). -/
def spanDot (b : Int) (l n k : Nat) : Int := b + ((k * l / n : Nat) : Int)

/-- The accumulator of a span of n dots over l counts after k dots have been produced: l − n at the start, n less at each
count, l more at each dot (R129). -/
def accumulatorAfter (l n k : Nat) : Int := (l : Int) - n + k * l - n * ((k * l / n : Nat) : Int)

/-- The accumulator run over l counts from count j, as R129 words it: it falls by n at each count; when it becomes
negative a dot lies there and it rises by l. -/
def accumulate (b : Int) (span n : Nat) : Nat → Nat → Int → List Int
  | 0, _, _ => []
  | counts + 1, j, d =>
    if d - n < 0 then (b + (j + 1 : Nat)) :: accumulate b span n counts (j + 1) (d - n + span)
    else accumulate b span n counts (j + 1) (d - n)

/-- All the dots of a span by the accumulator (R129). -/
def spanDots (b : Int) (l n : Nat) : List Int := accumulate b l n l 0 ((l : Int) - n)

/-- The counts from one dot to the next: the accumulator d first goes negative after floor(d / n) + 1 counts (R129). -/
def dotGap (d : Int) (n : Nat) : Int := d / (n : Int) + 1

/-- Produce the next dot of a line's span: its position, as the count reached by the dot before it and the gap the
accumulator gives, and the line with the accumulator moved on (R129, R130). -/
def Line.nextDot (l : Line) : Int × Line :=
  let gap := dotGap l.accumulator l.spanDots
  (spanDot l.spanBase l.spanLength l.spanDots l.produced + gap,
   { l with accumulator := l.accumulator - l.spanDots * gap + l.spanLength, produced := l.produced + 1,
            nextIndex := l.nextIndex + 1 })

/-- Produce the next n dots, with their indices; a position beyond the range is issued at its end (R129). -/
def Line.takeDots : Nat → Line → List (Nat × Int) × Line
  | 0, l => ([], l)
  | n + 1, l =>
    let (x, l') := l.nextDot
    let (more, l'') := Line.takeDots n l'
    ((l.nextIndex, saturatePosition x) :: more, l'')

/-! ## Feeding (R131) -/

/-- The struck in line: (last seen struck count − struck base) modulo 256 (R131). -/
def Marker.struckIn (m : Marker) (l : Line) : Nat := (m.struck.getD 0 - l.struckBase).toNat

/-- The outstanding count: dots issued − struck in line (R131). -/
def Marker.outstanding (m : Marker) (l : Line) : Nat := l.issued - m.struckIn l

/-- The three conditions of feeding (R131). -/
def Marker.mayFeed (m : Marker) (l : Line) : Bool :=
  decide (l.issued < l.total) && decide (m.outstanding l < 16) && decide (m.waiting ≤ 8)

/-- The payload of a STRIKE (R190). -/
def strikePayload (id : Half) (replace : Bool) (dots : List (Nat × Int)) : List Byte :=
  put16 id.toNat ++ put8 ((dots.head?.map Prod.fst).getD 0) ++ putFlag replace ++ put8 dots.length ++
  dots.flatMap fun d => put24 d.2

/-- Send one STRIKE frame with the next positions of the line in progress, if the conditions of feeding hold (R131). -/
def State.feedOne (s : State) (m : Fin 4) : State :=
  let k := s.marker m
  match k.line with
  | none => s
  | some l =>
    if k.mayFeed l then
      let n := min 8 (min (l.total - l.issued) (16 - k.outstanding l))
      let (dots, l') := l.takeDots n
      (s.modMarker m fun k => { k with line := some { l' with issued := l.issued + n, unstruck := l.unstruck ++ dots,
                                                              replaceDue := false } }).originateTo
        .f kindStrike (s.stationOf (.marker m)) (strikePayload l.id l.replaceDue dots)
    else s

/-- Feeding at a line's creation, after a refit and after a clip: frames for as long as the conditions hold, which is at
most two (R131). -/
def State.feedAll (s : State) (m : Fin 4) : State := (s.feedOne m).feedOne m

/-! ## Creation (R130, R133) -/

/-- The line record of a released MARK_LINE (R130). -/
def newLine (e : Entry) (start : Int) (length dots : Nat) (refit : Bool) (struck : Byte) : Line :=
  { id := e.segment, start := start, length := length, dots := dots, refit := refit, total := dots,
    spanBase := start, spanLength := length, spanDots := dots, accumulator := (length : Int) - dots, nextIndex := 1,
    produced := 0, issued := 0, struckBase := struck, unstruck := [], edgeTaken := false, replaceDue := false }

/-- The bytes of an entry as a SEG frame carries it (R189). -/
def Entry.payload (e : Entry) : List Byte :=
  [e.kind.code] ++ put16 e.segment.toNat ++ put16 e.piece ++ put16 e.tag ++ put16 e.arcLimit ++ put16 e.path.length ++
  (match e.body with
   | .plain => []
   | .line start length dots refit => put24 start ++ put16 length ++ put8 dots ++ putFlag refit
   | .text position chars => put24 position ++ put8 chars.length ++ chars
   | .rects list => put8 list.length ++ list.flatMap fun r => put16 r.id ++ put16 r.width ++ put16 r.length) ++
  e.path

/-- Send an entry on Port F as a SEG frame to a unit's station, under the source station and sequence that brought it
(R78, R133, R184). -/
def State.sendEntry (s : State) (k : StationKind) (e : Entry) : State :=
  match s.stationOf k with
  | none => s
  | some n => s.transmit .f (.hall { s.ownFrame kindSeg (BitVec.ofNat 8 n) e.seq e.payload with src := e.source })

/-- A released mark entry handed to a marker: a line record and its first frames, or a text record and its SEG frame
(R78, R130, R133). -/
def State.handMark (s : State) (m : Fin 4) (e : Entry) : State :=
  let struck := (s.marker m).struck.getD 0
  match e.body with
  | .line start length dots refit =>
    (s.modMarker m fun k => { k with line := some (newLine e start length dots refit struck) }).feedAll m
  | _ =>
    (s.modMarker m fun k => { k with text := some ⟨e.segment, e.piece, struck⟩ }).sendEntry (.marker m) e

/-! ## Ends (R132, R133, R139) -/

/-- A line or text in progress ends without a done: its record is cleared (R139). -/
def State.endMarks (s : State) (m : Option (Fin 4)) : State :=
  match m with
  | none => s
  | some m => s.modMarker m fun k => { k with line := none, text := none }

/-- The done of a line at step 3: its struck in line has reached its dot total (R132). -/
def Marker.lineDone (m : Marker) : Bool :=
  match m.line with
  | none => false
  | some l => decide (l.total ≤ m.struckIn l)

/-- The done of a text at step 3: at least one strike since its creation (R133). -/
def Marker.textDone (m : Marker) : Bool :=
  match m.text with
  | none => false
  | some x => (m.struck.getD 0) - x.struckBase != 0#8

/-- The unstruck list brought up to date: the records whose index is at or below the struck in line leave it (R131). -/
def Marker.prune (m : Marker) : Marker :=
  match m.line with
  | none => m
  | some l => { m with line := some { l with unstruck := l.unstruck.filter fun d => m.struckIn l < d.1 } }

/-! ## The plate edge (R135 to R137) -/

/-- The planned dots of index struck in line + 1 upward whose positions are at or below the usable end (R137). -/
def Line.keptDots (l : Line) (struck : Nat) (u : Int) : Nat :=
  ((List.range' (struck + 1) (l.total - struck)).filter fun k =>
    decide (spanDot l.start l.length l.dots k ≤ u)).length

/-- A refit: R dots over the S counts from q, from index struck in line + 1 (R136). -/
def Line.refitted (l : Line) (struck : Nat) (q : Int) (counts remaining : Nat) : Line :=
  { l with spanBase := q, spanLength := counts, spanDots := remaining, accumulator := (counts : Int) - remaining,
           produced := 0, nextIndex := struck + 1, issued := struck, unstruck := [], edgeTaken := true,
           replaceDue := true }

/-- A clip that keeps dots: the planned positions again from index struck in line + 1, with the accumulator as it was
after the dot before it (R137). -/
def Line.clipped (l : Line) (struck kept : Nat) : Line :=
  { l with total := struck + kept, unstruck := [], issued := struck, nextIndex := struck + 1, produced := struck,
           accumulator := accumulatorAfter l.spanLength l.spanDots struck, edgeTaken := true, replaceDue := true }

/-- An edge in a line in progress (R135 to R137). The answer says whether the line is done at the edge. A clip that keeps
dots feeds them before it raises MARK_CLIPPED: DESIGN CHOICE, R137 does not say which is first
(notes/assumptions/57.md). -/
def State.takeEdge (s : State) (m : Fin 4) (l : Line) : State × Bool :=
  let k := s.marker m
  let struck := k.struckIn l
  let q := (s.channel (carriageOf m)).position
  let u := q + k.lookAhead - k.edgeMargin
  let remaining := l.total - struck
  let counts := u - q
  let valid := s.markerValid m
  if l.refit = true ∧ valid = true ∧ (remaining : Int) ≤ counts then
    ((s.modMarker m fun k => { k with line := some (l.refitted struck q counts.toNat remaining) }).feedAll m, false)
  else
    let kept := if valid = true ∧ 1 ≤ counts then l.keptDots struck u else 0
    let dropped := remaining - kept
    let s' :=
      if 1 ≤ kept then
        (s.modMarker m fun k => { k with line := some (l.clipped struck kept) }).feedAll m
      else s.modMarker m fun k => { k with line := none }
    (if 1 ≤ dropped then s'.raise .flow evMarkClipped (unitMarker m) dropped else s', decide (kept = 0))

/-- A marker whose station binding changes (R124, R162). -/
def Marker.unbind (m : Marker) : Marker :=
  { m with struck := none, edge := none, waiting := 0, ready := false, resume := false }

/-- The marker after RESET RUNTIME (R140). -/
def Marker.runtimeReset (m : Marker) : Marker := { lookAhead := m.lookAhead, edgeMargin := m.edgeMargin }

end Sys2Proof.Machine
end

