-- ==== Sys2Proof/Machine/TableUnit.lean ====
section
/-! DEFINITION. The cutting table units' operations: in-flight accounting and the arc monitor (R65, R79, R111 to R120),
marks and removals (R72, R81), entry to FAULT (R84), head processing (R73 to R78). -/

namespace Sys2Proof.Machine

/-- In flight: (released count − done total) modulo 256 (R65). -/
def Table.inFlight (t : Table) : Nat := (t.released - t.done).toNat

/-- The stall timer restarts at 0, which clears its notice-sent flag (R82). -/
def Table.restartStall (t : Table) : Table := { t with stall := 0, stallSent := false }

/-- The mark summary flag brought up to date (R72). -/
def Table.summarise (t : Table) : Table := { t with markSummary := t.queue.any fun e => !e.marks.isEmpty }

/-- QUEUED with a non-empty queue, IDLE with an empty one. -/
def Table.settleQueue (t : Table) : Table := { t with state := if t.queue.isEmpty then .idle else .queued }

/-! ## The arc monitor (R113, R115, R120) -/

/-- The wear test of the pierce count (R120). -/
def State.testPierceWear (s : State) (t : Fin 6) : State :=
  let a := s.arc t
  let limit := (s.table t).config.pierceLimit
  if limit ≠ 0 ∧ limit ≤ a.wearPierces ∧ a.piercesReported = false then
    (s.modArc t fun a => { a with piercesReported := true }).raise .wear evWearPierces (unitTable t) a.wearPierces
  else s

/-- The wear test of the arc cycles (R120). -/
def State.testArcWear (s : State) (t : Fin 6) : State :=
  let a := s.arc t
  let limit := (s.table t).config.arcLimit
  if limit ≠ 0 ∧ limit ≤ a.wearArc ∧ a.arcReported = false then
    (s.modArc t fun a => { a with arcReported := true }).raise .wear evWearArc (unitTable t) a.wearArc
  else s

/-- A rise of the arc level (R113). -/
def State.arcRise (s : State) (t : Fin 6) : State :=
  (s.modArc t fun a =>
    { a with lastOff := s.cycle - a.lastEdge, lastEdge := s.cycle, platePierces := min 65535 (a.platePierces + 1),
             wearPierces := min 4294967295 (a.wearPierces + 1), base := s.cycle, watch := none }).testPierceWear t

/-- A fall of the arc level (R113). -/
def State.arcFall (s : State) (t : Fin 6) : State :=
  s.modArc t fun a => { a with lastOn := s.cycle - a.lastEdge, lastEdge := s.cycle, episode := false }

/-- The monitor takes note of a change of the oldest in-flight record (R115). -/
def State.noteOldest (s : State) (t : Fin 6) : State :=
  let watch := match (s.table t).flights with
    | f :: _ => if f.kind = .pierceCut then some (f.segment, s.cycle) else none
    | [] => none
  s.modArc t fun a => { a with base := if a.arc.level then s.cycle else a.base, watch := watch }

/-- The released count is set to the done total, and the in-flight list is emptied (R89, R90, R117, R118). -/
def State.emptyFlights (s : State) (t : Fin 6) : State :=
  let had := !(s.table t).flights.isEmpty
  let s' := s.modTable t fun x => { x with released := x.done, flights := [] }
  if had then s'.noteOldest t else s'

/-- The done count of a controller sample (R79, step 3). -/
def State.takeDone (s : State) (t : Fin 6) (d : Byte) : State :=
  let x := s.table t
  match x.lastDone with
  | none => s.modTable t fun x => { x with lastDone := some d }
  | some last =>
    let advance := d - last
    let s' := s.modTable t fun x => { x with lastDone := some d }
    if advance = 0#8 then s'
    else if x.target = .marker ∧ 0 < x.inFlight then s'
    else if advance.toNat ≤ x.inFlight then
      (s'.modTable t fun x =>
        { x.restartStall with done := x.done + advance, flights := x.flights.drop advance.toNat }).noteOldest t
    else
      let had := !x.flights.isEmpty
      let s'' := s'.modTable t fun x => { x.restartStall with done := x.released, flights := [] }
      let s3 := if had then s''.noteOldest t else s''
      if 0 < x.inFlight then s3.raise .flow evDoneResync (unitTable t) advance.toNat else s3

/-- A line or text done from the bound marker (R80). -/
def State.takeMarkDone (s : State) (t : Fin 6) : State :=
  let x := s.table t
  if 0 < x.inFlight ∧ x.target = .marker then
    (s.modTable t fun x => { x.restartStall with done := x.done + 1, flights := x.flights.drop 1 }).noteOldest t
  else s

/-! ## FAULT (R84) -/

/-- A fault cause at a table (R84): its ARREST; and, from any other state, FAULT, out of the Hold List, any mark in
progress ended, the timers at 0. The permit held stays held. -/
def State.enterFault (s : State) (t : Fin 6) : State :=
  let s' := s.sendArrest (.table t)
  if (s.table t).state = .fault then s'
  else
    let s'' := { s' with hold := s'.hold.filter fun e => e.unit ≠ HoldUnit.table t }
    (s''.modTable t fun x => { x with state := .fault, stall := 0, linger := 0 }).endMarks (s.table t).config.marker

/-! ## The arc level of a sample (R111, R112) -/

/-- The arc level primed, resumed or filtered (R111), with the rise or fall taken (R113). -/
def State.takeArcLevel (s : State) (t : Fin 6) (raw : Bool) : State :=
  let a := s.arc t
  if !a.primed then
    s.modArc t fun a => { a with primed := true, resume := false, arc := .set raw, lastEdge := s.cycle }
  else
    let level : Level :=
      if a.resume then .set raw
      else if raw = a.arc.level then { a.arc with run := 0 }
      else if (s.table t).config.arcDepth ≤ a.arc.run + 1 then { level := raw, run := 0 }
      else { a.arc with run := a.arc.run + 1 }
    let s' := s.modArc t fun a => { a with arc := level, resume := false }
    if level.level = a.arc.level then s' else if level.level then s'.arcRise t else s'.arcFall t

/-- ARC_UNPERMITTED (R116). -/
def State.checkUnpermitted (s : State) (t : Fin 6) : State :=
  if (s.table t).permit then s.modArc t fun a => { a with episode := false }
  else if (s.arc t).arc.level && !(s.arc t).episode then
    ((s.modArc t fun a => { a with episode := true }).raise .guard evArcUnpermitted (unitTable t)
      (((s.stationOf (.table t)).getD 0 : Nat) : Int)).enterFault t
  else s

/-- Whether ARC_NO_START is found: an ignite watch has reached the ignite limit (R118). -/
def State.arcNoStartDue (s : State) (t : Fin 6) : Bool :=
  match (s.arc t).watch with
  | none => false
  | some (_, start) => decide ((s.table t).config.ignite ≤ (s.cycle - start).toNat)

/-- ARC_NO_START (R118). -/
def State.checkNoStart (s : State) (t : Fin 6) : State :=
  match (s.arc t).watch with
  | none => s
  | some (segment, _) =>
    if s.arcNoStartDue t then
      (((s.raise .fault evArcNoStart (unitTable t) segment.toNat).modArc t fun a =>
        { a with watch := none }).emptyFlights t).enterFault t
    else s

/-- Whether ARC_OVERRUN is found: the arc ON, a cutting record oldest, its arc limit passed (R117). -/
def State.arcOverrunDue (s : State) (t : Fin 6) : Bool :=
  match (s.table t).flights with
  | [] => false
  | f :: _ => (s.arc t).arc.level && f.kind.isCutting && decide (f.arcLimit < (s.cycle - (s.arc t).base).toNat)

/-- ARC_OVERRUN (R117). -/
def State.checkOverrun (s : State) (t : Fin 6) : State :=
  match (s.table t).flights with
  | [] => s
  | f :: _ =>
    if s.arcOverrunDue t then
      (((s.raise .fault evArcOverrun (unitTable t) f.segment.toNat).emptyFlights t).modArc t fun a =>
        { a with watch := none }).enterFault t
    else s

/-- Whether a table in FAULT drops its permit: the arc is OFF (R119). -/
def State.faultDropDue (s : State) (t : Fin 6) : Bool :=
  decide ((s.table t).state = .fault) && (s.table t).permit && !(s.arc t).arc.level

/-- The monitor's work for a sample, steps 1 to 5 of R112. -/
def State.arcSample (s : State) (t : Fin 6) (raw : Bool) : State :=
  (((s.takeArcLevel t raw).checkUnpermitted t).checkNoStart t).checkOverrun t

/-- The wear arc cycles at a boundary (R114). -/
def State.wearBoundary (s : State) (t : Fin 6) : State :=
  if (s.arc t).arc.level && s.isFresh (.table t) then
    (s.modArc t fun a => { a with wearArc := min 4294967295 (a.wearArc + 1) }).testArcWear t
  else s

/-- The arc level of a table whose controller station binding changes: unprimed, OFF, a fall if it was ON (R111,
R123). -/
def State.unprimeArc (s : State) (t : Fin 6) : State :=
  let s' := if (s.arc t).arc.level then s.arcFall t else s
  s'.modArc t fun a => { a with primed := false, resume := false, arc := {} }

/-! ## Queue (R71, R72, R81) -/

/-- One REFILL to the last SEG source when a removal takes the queue count from the trigger to one below it (R81). -/
def State.refill (s : State) (t : Fin 6) : State :=
  let x := s.table t
  match x.lastSource with
  | none => s
  | some (src, port) =>
    if x.queue.length + 1 = x.config.lowWater then
      s.originate (s.sidePort src.toNat port) kindRefill src (put8 t.val ++ put8 (24 - x.queue.length))
    else s

/-- The head entry leaves the queue by processing, release or TABLE.SKIP: the mark summary is brought up to date and the
removal is compared with the trigger (R72, R81). -/
def State.removeHead (s : State) (t : Fin 6) : State :=
  (s.modTable t fun x => { x with queue := x.queue.drop 1 }.summarise).refill t

/-- A mark set on the head (R73, R74 to R76). -/
def Table.markHead (x : Table) (m : Mark) : Table :=
  match x.queue with
  | [] => x
  | e :: rest => { x with queue := { e with marks := if m ∈ e.marks then e.marks else e.marks ++ [m] } :: rest }.summarise

/-- A marked head puts the table in HEAD_ERROR (R73). -/
def State.headError (s : State) (t : Fin 6) (segment : Half) : State :=
  (s.modTable t fun x => { x with state := .headError }).raise .flow evHeadError (unitTable t) segment.toNat

/-- Marks set at the head lead to HEAD_ERROR in the same examination (R73). -/
def State.markError (s : State) (t : Fin 6) (segment : Half) (m : Mark) : State :=
  (s.modTable t fun x => x.markHead m).headError t segment

/-! ## Permit requests (R93) -/

/-- A permit request of a table is granted when its permit set is free of cranes and its yield requester set is empty
(R93). -/
def State.permitGrant (s : State) (t : Fin 6) : Bool := s.permitGrantable t && (s.table t).yielders.isEmpty

/-- A unit appended at the tail of the Hold List (R97). -/
def State.appendHold (s : State) (u : HoldUnit) : State := { s with hold := s.hold ++ [HoldEntry.mk u s.cycle] }

/-- A QUEUED table requests its permit: ACTIVE at once, or PERMIT_WAIT and appended to the Hold List (R76, R93). -/
def State.requestPermit (s : State) (t : Fin 6) : State :=
  if s.permitGrant t then (s.takePermit t).modTable t fun x => { x.restartStall with state := .active }
  else (s.modTable t fun x => { x.restartStall with state := .permitWait }).appendHold (.table t)

/-! ## Release (R77, R78) -/

/-- Whether run control has a step to grant: without the step flag no step is asked for (R174). -/
def State.stepFree (s : State) : Bool := !(s.stepFlag && s.stepConsumed)

/-- An admission, grant or release consumes the step (R174). -/
def State.consumeStep (s : State) : State := if s.stepFlag then { s with stepConsumed := true } else s

/-- The conditions under which a head cutting or mark entry is released (R77). -/
def State.releaseReady (s : State) (t : Fin 6) (e : Entry) : Bool :=
  let x := s.table t
  let own :=
    if e.kind.isCutting then
      decide (x.inFlight < x.config.window) && s.controllerReady t &&
        (decide (x.inFlight = 0) || decide (x.target = .controller))
    else
      match x.config.marker with
      | none => false
      | some m => decide (x.inFlight = 0) && s.markerReady m
  own && decide (s.runState = .running) && s.stepFree

/-- The release of the head entry (R78). -/
def State.release (s : State) (t : Fin 6) (e : Entry) : State :=
  let first := (s.table t).flights.isEmpty
  let s1 := s.modTable t fun x =>
    { x.restartStall with
        queue := x.queue.drop 1, released := x.released + 1,
        flights := x.flights ++ [Flight.mk e.kind e.segment e.piece (if e.kind.isMark then 0 else e.arcLimit) s.cycle],
        target := if e.kind.isMark then .marker else .controller }.summarise
  let s2 := if first then s1.noteOldest t else s1
  let s3 := s2.refill t
  let s4 :=
    if e.kind.isMark then
      match (s.table t).config.marker with
      | none => s3
      | some m => s3.handMark m e
    else s3.sendEntry (.table t) e
  s4.consumeStep

/-! ## Plate entries (R74, R75) -/

/-- The first failing check of a PLATE_BEGIN (R74). -/
def State.plateBeginMark (s : State) (t : Fin 6) (e : Entry) : Option Mark :=
  match s.piece e.piece with
  | none => some .pieceNotHere
  | some p =>
    if p.location ≠ .onTable t then some .pieceNotHere
    else if p.tag.isSome ∧ p.tag ≠ some e.tag then some .pieceReserved
    else if (s.table t).plate.isSome then some .plateOpen
    else none

/-- A table in QUEUED whose queue is now empty becomes IDLE (R74, R75). -/
def Table.idleIfDone (x : Table) : Table := if x.state = .queued ∧ x.queue = [] then { x with state := .idle } else x

/-- A PLATE_BEGIN processed (R74, R157). -/
def State.beginPlate (s : State) (t : Fin 6) (e : Entry) : State :=
  let s1 := s.changePiece e.piece .cutBegun fun p => { p with lifecycle := .inCut }
  let s2 := (s1.modTable t fun x => { x with plate := some e.piece }).modArc t fun a => { a with platePierces := 0 }
  (s2.removeHead t).modTable t Table.idleIfDone

/-- Whether a PLATE_END's check holds: a plate in cut, and the entry's piece ID absent or equal to it (R75). -/
def Table.plateEndHolds (x : Table) (e : Entry) : Bool :=
  match x.plate with
  | none => false
  | some p => decide (e.piece = 0) || decide (e.piece = p)

/-- A PLATE_END processed (R75, R158). -/
def State.endPlate (s : State) (t : Fin 6) (e : Entry) : State :=
  let rects := match e.body with
    | .rects list => list
    | _ => []
  let s1 := match (s.table t).plate with
    | none => s
    | some p => s.consumePlate t p rects
  ((s1.modTable t fun x => { x with plate := none }).removeHead t).modTable t Table.idleIfDone

/-! ## Head processing (R73 to R77) -/

/-- The first failing check of a cutting or mark entry at the head (R76). -/
def State.headMark (s : State) (t : Fin 6) (e : Entry) : Option Mark :=
  let x := s.table t
  if e.kind.isCutting then (if x.plate.isSome then none else some .noPlate)
  else
    match x.config.marker with
    | none => some .noMarker
    | some m => if s.markerValid m then none else some .markerUnhomed

/-- What one examination of the head does. -/
inductive HeadAct where
  /-- the head cannot yet be acted on -/
  | wait
  /-- the head carries a mark already: HEAD_ERROR -/
  | error
  /-- a check at the head fails: the mark, then HEAD_ERROR -/
  | mark (m : Mark)
  /-- a PLATE_BEGIN is processed -/
  | plateBegin
  /-- a PLATE_END is processed -/
  | plateEnd
  /-- a QUEUED table requests its permit -/
  | request
  /-- the head is released -/
  | release
  deriving DecidableEq, Repr

/-- Decide what head processing does with a head entry in the table's state (R69, R73 to R77). -/
def State.headAct (s : State) (t : Fin 6) (e : Entry) : HeadAct :=
  let x := s.table t
  if x.state ≠ .queued ∧ x.state ≠ .active ∧ x.state ≠ .yielding then .wait
  else if e.marks ≠ [] then .error
  else
    match e.kind with
    | .plateBegin =>
      if x.state = .yielding ∨ (x.state = .active ∧ 0 < x.inFlight) then .wait
      else match s.plateBeginMark t e with
        | some m => .mark m
        | none => .plateBegin
    | .plateEnd =>
      if x.state = .yielding ∨ (x.state = .active ∧ 0 < x.inFlight) then .wait
      else if x.plateEndHolds e then .plateEnd else .mark .noPlate
    | .other _ => .wait
    | .pierceCut | .cut | .traverse | .markLine | .markText =>
      if x.state = .yielding ∧ e.kind ≠ .cut then .wait
      else match s.headMark t e with
        | some m => .mark m
        | none =>
          if x.state = .queued then .request
          else if s.releaseReady t e then .release else .wait

/-- Head processing (R73): examine the head, act, and examine the new head, until it cannot be acted on. Each
examination that goes on removes an entry, but for the one that makes a QUEUED table ACTIVE; `fuel` counts them. -/
def State.headLoop (t : Fin 6) : Nat → State → State
  | 0, s => s
  | fuel + 1, s =>
    match (s.table t).queue with
    | [] => s
    | e :: _ =>
      match s.headAct t e with
      | .wait => s
      | .error => s.headError t e.segment
      | .mark m => s.markError t e.segment m
      | .plateBegin => State.headLoop t fuel (s.beginPlate t e)
      | .plateEnd => State.headLoop t fuel (s.endPlate t e)
      | .request =>
        let s' := s.requestPermit t
        if (s'.table t).state = .active then State.headLoop t fuel s' else s'
      | .release => State.headLoop t fuel (s.release t e)

/-- Head processing of a table; in HALTED and STOPPING it does not run (R73). -/
def State.headProcess (s : State) (t : Fin 6) : State :=
  if s.runState = .running then State.headLoop t ((s.table t).queue.length + 2) s else s

/-! ## Timers (R82, R83) -/

/-- Whether the stall timer counts (R82). -/
def State.stallCounts (s : State) (t : Fin 6) : Bool :=
  let x := s.table t
  decide (s.runState = .running) && (decide (x.state = .active) || decide (x.state = .permitWait)) && !x.queue.isEmpty

/-- The STALL notice, where the timer has reached the stall limit and the notice has not been sent (R82). -/
def State.raiseStall (s : State) (t : Fin 6) : State :=
  let x := s.table t
  if x.config.stallLimit ≤ x.stall ∧ x.stallSent = false then
    (s.modTable t fun x => { x with stallSent := true }).raise .flow evStall (unitTable t) x.queue.length
  else s

/-- The stall timer at a cycle boundary (R82). -/
def State.stallBoundary (s : State) (t : Fin 6) : State :=
  if s.stallCounts t then (s.modTable t fun x => { x with stall := min 65535 (x.stall + 1) }).raiseStall t else s

/-- Whether the head of a queue, if any, is PLATE_BEGIN or PLATE_END (R83). -/
def Table.headIsPlate (x : Table) : Bool :=
  match x.queue with
  | [] => true
  | e :: _ => decide (e.kind = .plateBegin) || decide (e.kind = .plateEnd)

/-- Whether all the conditions hold under which the linger timer counts (R83). -/
def State.lingerCounts (s : State) (t : Fin 6) : Bool :=
  let x := s.table t
  decide (s.runState = .running) &&
    (decide (x.state = .active) || (decide (x.state = .headError) && x.permit)) &&
    decide (x.inFlight = 0) && !(s.arc t).arc.level &&
    (decide (x.state = .headError) || x.headIsPlate)

/-- The linger timer at a cycle boundary (R83). -/
def State.lingerBoundary (s : State) (t : Fin 6) : State :=
  if s.lingerCounts t then s.modTable t fun x => { x with linger := min 10000 (x.linger + 1) } else s

/-- The timers of a table read 0 wherever they do not count (R82, R83). -/
def State.clearTimers (s : State) (t : Fin 6) : State :=
  let stall := s.stallCounts t
  let linger := s.lingerCounts t
  s.modTable t fun x => { x with stall := if stall then x.stall else 0, linger := if linger then x.linger else 0 }

/-- The table after RESET RUNTIME (R91). -/
def Table.runtimeReset (x : Table) : Table := { config := x.config }

/-- The arc monitor after RESET RUNTIME at cycle n (R123). -/
def Arc.runtimeReset (a : Arc) (n : CycleNo) : Arc :=
  { lastEdge := n, base := n, wearPierces := a.wearPierces, wearArc := a.wearArc,
    piercesReported := a.piercesReported, arcReported := a.arcReported }

end Sys2Proof.Machine
end

