-- ==== Sys2Proof/Machine/Hold.lean ====
section
/-! DEFINITION. The Zone Table owner's Hold List (R96 to R107): requirements and re-checks (R43 to R47), the scan (R100),
what grants and withdrawals set off afterwards (R101, R105 to R107), entry to STOPPING and HALTED (R103, R172 to R174). -/

namespace Sys2Proof.Machine

/-! ## Checks of a crane operation (R43 to R45) -/

/-- A LIFT's own checks, in the order of R44. -/
def State.liftCheck (s : State) (c : Fin 4) (id : Nat) : Option Reason :=
  if (s.crane c).load ≠ .none then some .loadPresent
  else if id = 0 then none
  else
    match s.piece id with
    | none => some .pieceUnknown
    | some p =>
      match s.hookZone c with
      | none => some .pieceNotHere
      | some h =>
        let onTable : Option (Fin 6) := match (s.zone h).use with
          | .table t => if p.location = .onTable t then some t else none
          | _ => none
        if p.location ≠ .zone h ∧ onTable = none then some .pieceNotHere
        else if p.lifecycle = .inCut then some .pieceInCut
        else
          match onTable with
          | none => none
          | some t =>
            if p.lifecycle = .awaitingMark ∧ (s.table t).config.markFirst = true then some .notMarked else none

/-- A LOWER's own checks (R45). -/
def State.lowerCheck (s : State) (c : Fin 4) : Option Reason :=
  if (s.crane c).load = .none then some .noLoad
  else
    match s.hookZone c with
    | none => some .zoneUnusable
    | some h =>
      match (s.zone h).use with
      | .floor | .rack => if (s.zone h).stored < (s.zone h).capacity then none else some .zoneFull
      | .table t =>
        if (s.table t).state = .idle ∧ s.tableOccupied t = false then none else some .tableOccupied
      | .aisle | .keepOut | .none => some .zoneUnusable

/-- Check 5 of R43 and the operation's own checks: what an admission makes and a grant makes again (R43, R47). -/
def State.ownCheck (s : State) (c : Fin 4) (op : Operation) : Option Reason :=
  match op with
  | .move .. => none
  | .lift id _ => if (s.crane c).moving then some .notStill else s.liftCheck c id
  | .lower => if (s.crane c).moving then some .notStill else s.lowerCheck c

/-- The required set of an operation from the crane's position as it stands (R43, R47). -/
def State.requirement (s : State) (c : Fin 4) (op : Operation) : List Nat :=
  match op with
  | .move tb tt => s.sweep c (s.loadRadius c) tb tt
  | .lift id saved => s.footprint c (s.liftRadius id saved)
  | .lower => []

/-! ## Yield requests (R104, R105) -/

/-- A set of cranes with one more member, in ascending order. -/
def joinSet (c : Fin 4) (set : List (Fin 4)) : List (Fin 4) := allCranes.filter fun d => d = c ∨ d ∈ set

/-- Whether crane c joins table t's requester set for a requirement (R104). -/
def State.joins (s : State) (c : Fin 4) (g : List Nat) (t : Fin 6) : Bool :=
  (s.table t).config.yieldAllowed && (g.any fun z => (s.zone z).permit == some t) &&
    !((s.table t).yielders.contains c)

/-- Post a crane's new yield requests; the answer also names the tables whose set became non-empty (R104, R106), in
ascending order: DESIGN CHOICE, the order in which they act is not stated (notes/assumptions/48.md). -/
def State.postYields (s : State) (c : Fin 4) (g : List Nat) : State × List (Fin 6) :=
  let joined := allTables.filter (s.joins c g)
  (joined.foldl (fun s t => s.modTable t fun x => { x with yielders := joinSet c x.yielders }) s,
   joined.filter fun t => (s.table t).yielders.isEmpty)

/-- Withdraw a crane's yield requests; the answer also names the tables whose set became empty by it (R105), in ascending
order: DESIGN CHOICE, the order in which they act is not stated (notes/assumptions/48.md). -/
def State.withdraw (s : State) (c : Fin 4) : State × List (Fin 6) :=
  let held := allTables.filter fun t => (s.table t).yielders.contains c
  (held.foldl (fun s t => s.modTable t fun x => { x with yielders := x.yielders.filter fun d => d ≠ c }) s,
   held.filter fun t => (s.table t).yielders.all fun d => d == c)

/-- A unit leaves the Hold List; the entries after it keep their order (R98). -/
def State.leaveHold (s : State) (u : HoldUnit) : State := { s with hold := s.hold.filter fun e => e.unit ≠ u }

/-! ## What one event may set off -/

/-- The acts that an event sets off at the units, one after another (R73, R99, R101, R105, R106). -/
inductive Work where
  /-- the end of a table's handling of an event: head processing, then its tail -/
  | act (t : Fin 6)
  /-- the tests at the end of a table's handling: yield, linger, STOPPING -/
  | tail (t : Fin 6)
  /-- the owner evaluates the Hold List -/
  | eval
  /-- the effects of a crane's grant, after the scan -/
  | grantCrane (c : Fin 4)
  /-- the effects of a failed re-check, after the scan -/
  | refuseCrane (c : Fin 4) (reason : Reason)
  /-- the effects of a table's grant, after the scan -/
  | grantTable (t : Fin 6)
  /-- a table's requester set has become non-empty -/
  | filled (t : Fin 6)
  /-- a withdrawal has emptied a table's requester set -/
  | emptied (t : Fin 6)
  deriving DecidableEq, Repr

/-- Examine a crane entry in a scan (R100). The answer says whether the scan ends with it. A failed re-check leaves the
list within the scan; its ANSWER REFUSED, its notice and the EMPTY slot follow after the scan, in list order among the
grants' effects: DESIGN CHOICE, R101 says so of grants alone (notes/assumptions/55.md). -/
def State.scanCrane (s : State) (c : Fin 4) : State × List Work × Bool :=
  match (s.crane c).slot with
  | .held op _ =>
    if s.craneValid c then
      let g := s.requirement c op.operation
      match s.classify c g with
      | .free =>
        match s.ownCheck c op.operation with
        | some reason => (s.leaveHold (.crane c), [.refuseCrane c reason], false)
        | none =>
          if s.stepFree then (((s.takeClaims c g).leaveHold (.crane c)).consumeStep, [.grantCrane c], s.stepFlag)
          else (s, [], false)
      | .held | .keepOut =>
        let (s', filled) := s.postYields c g
        (s', filled.map .filled, false)
    else (s, [], false)
  | .empty | .inFlight _ => (s, [], false)

/-- Examine a table entry in a scan (R100). -/
def State.scanTable (s : State) (t : Fin 6) : State × List Work :=
  if s.permitGrant t then ((s.takePermit t).leaveHold (.table t), [.grantTable t]) else (s, [])

/-- Scan the entries of the Hold List, oldest first (R100). The acts follow after the scan, in list order (R101). -/
def State.scan : List HoldEntry → State → State × List Work
  | [], s => (s, [])
  | e :: rest, s =>
    match e.unit with
    | .crane c =>
      let (s', works, stop) := s.scanCrane c
      if stop then (s', works)
      else
        let (s'', more) := State.scan rest s'
        (s'', works ++ more)
    | .table t =>
      let (s', works) := s.scanTable t
      let (s'', more) := State.scan rest s'
      (s'', works ++ more)

/-- The effects of a crane's grant after the scan: the held frame copy goes to the crane, ANSWER RELEASED to the source,
the slot becomes IN_FLIGHT, and the crane withdraws from every requester set (R47, R101, R105). -/
def State.grantCrane (s : State) (c : Fin 4) : State × List Work :=
  match (s.crane c).slot with
  | .held op copy =>
    let s1 := (s.transmit .f (.hall copy)).answerOp op .released none
    let s2 := s1.modCrane c fun k => { k with slot := .inFlight { op with entry := s.cycle, moved := false } }
    let (s3, emptied) := s2.withdraw c
    (s3, emptied.map .emptied)
  | .empty | .inFlight _ => (s, [])

/-- A HELD operation leaves with ANSWER REFUSED and the reason, with or without a REFUSAL notice: the crane is out of the
Hold List, its yield requests withdrawn, its slot EMPTY (R47, R60, R98, R102, R103). -/
def State.dropHeld (s : State) (c : Fin 4) (reason : Reason) (notice : Bool) : State × List Work :=
  match (s.crane c).slot with
  | .held op _ =>
    let (s1, emptied) := (s.leaveHold (.crane c)).withdraw c
    let s2 := s1.answerOp op .refused (some reason)
    let s3 := if notice then s2.raiseRefusal reason (unitCrane c) op.source else s2
    (s3.modCrane c fun k => { k with slot := .empty }, emptied.map .emptied)
  | .empty | .inFlight _ => (s, [])

/-- The effects of a table's grant after the scan: ACTIVE, or YIELDING at once where a crane examined later in the scan
has joined its set (R101, R106). -/
def State.grantTable (s : State) (t : Fin 6) : State :=
  s.modTable t fun x => { x.restartStall with state := if x.yielders.isEmpty then .active else .yielding }

/-- Whether a YIELDING table yields (R107). -/
def State.yieldDue (s : State) (t : Fin 6) : Bool :=
  let x := s.table t
  decide (s.runState = .running) && decide (x.state = .yielding) && decide (x.inFlight = 0) &&
    !(s.arc t).arc.level &&
    (match x.queue with
     | [] => true
     | e :: _ => decide (e.kind ≠ .cut))

/-- Whether the linger has run out, or a HEAD_ERROR table has a crane waiting for it (R83). -/
def State.lingerDue (s : State) (t : Fin 6) : Bool :=
  let x := s.table t
  s.lingerCounts t && (decide (x.config.linger ≤ x.linger) || (decide (x.state = .headError) && !x.yielders.isEmpty))

/-- Whether a table that holds its permit in STOPPING releases it (R85). -/
def State.stopDropDue (s : State) (t : Fin 6) : Bool :=
  let x := s.table t
  decide (s.runState = .stopping) && x.permit &&
    (decide (x.state = .active) || decide (x.state = .yielding) || decide (x.state = .headError)) &&
    decide (x.inFlight = 0) && !(s.arc t).arc.level

/-- ACTIVE and YIELDING become QUEUED, or IDLE with an empty queue; HEAD_ERROR stays (R83, R85). -/
def Table.afterDrop (x : Table) : Table := if x.state = .headError then x else x.settleQueue

/-- The yield of a table (R107): the append comes before the evaluation for the release. -/
def State.yieldPermit (s : State) (t : Fin 6) : State :=
  if (s.table t).queue.isEmpty then (s.dropPermit t).modTable t fun x => { x with state := .idle }
  else ((s.dropPermit t).modTable t fun x => { x.restartStall with state := .permitWait }).appendHold (.table t)

/-- The tests at the end of a table's handling of an event (R83, R85, R107). -/
def State.tail (s : State) (t : Fin 6) : State × List Work :=
  if s.yieldDue t then (s.yieldPermit t, [.eval])
  else if s.lingerDue t || s.stopDropDue t then ((s.dropPermit t).modTable t Table.afterDrop, [.eval])
  else (s, [])

/-- A table whose requester set has become non-empty, tested as it stands when the table takes it: a joiner that has left
since by a failed re-check leaves no requester to yield to (R106). -/
def State.filled (s : State) (t : Fin 6) : State × List Work :=
  if (s.table t).state = .active ∧ (s.table t).yielders ≠ [] then
    (s.modTable t fun x => { x with state := .yielding }, [.tail t])
  else (s, [.tail t])

/-- A table whose requester set a withdrawal has emptied, tested as it stands when the table takes it: a set that a crane
has joined since keeps the table YIELDING (R105, R106). -/
def State.emptied (s : State) (t : Fin 6) : State × List Work :=
  match (s.table t).state with
  | .yielding =>
    if (s.table t).yielders = [] then (s.modTable t fun x => { x.restartStall with state := .active }, [.act t])
    else (s, [])
  | .permitWait => (s, [.eval])
  | .idle | .queued | .active | .headError | .fault => (s, [])

/-- What follows a table's entry into ACTIVE or YIELDING: the yield test at its entry into YIELDING (R107), then head
processing and the tests at the end of its handling. -/
def State.entered (s : State) (t : Fin 6) : List Work :=
  if (s.table t).state = .yielding then [.tail t, .act t] else [.act t]

/-- One act, and the acts it sets off. -/
def Work.perform (w : Work) (s : State) : State × List Work :=
  match w with
  | .act t => (s.headProcess t).tail t
  | .tail t => s.tail t
  | .eval => State.scan s.hold s
  | .grantCrane c => s.grantCrane c
  | .refuseCrane c reason => s.dropHeld c reason true
  | .grantTable t => (s.grantTable t, (s.grantTable t).entered t)
  | .filled t => s.filled t
  | .emptied t => s.emptied t

/-- Perform acts in order, each followed by what it sets off, until none is left. -/
def settle : Nat → List Work → State → State
  | 0, _, s => s
  | _ + 1, [], s => s
  | fuel + 1, w :: ws, s =>
    let (s', more) := w.perform s
    settle fuel (more ++ ws) s'

/-- Perform the acts that an event sets off. -/
def State.perform (s : State) (works : List Work) : State := settle Config.agendaLimit works s

/-! ## Run control (R103, R172 to R174) -/

/-- One entry leaves as entry to STOPPING empties the Hold List (R103). -/
def State.stopEntry (s : State) (e : HoldEntry) : State :=
  match e.unit with
  | .crane c => (s.dropHeld c .stopping false).1
  | .table t => (s.leaveHold (.table t)).modTable t fun x => { x with state := .queued, stall := 0 }

/-- Every table left in YIELDING returns to ACTIVE once the list is empty (R103). -/
def State.endYield (s : State) (t : Fin 6) : State :=
  if (s.table t).state = .yielding then s.modTable t fun x => { x.restartStall with state := .active } else s

/-- Entry into STOPPING, from any cause (R85, R103, R172). -/
def State.enterStopping (s : State) (cause : StopCause) : State :=
  let s1 := { s with runState := .stopping, stopCause := cause }
  let s2 := { s1.hold.foldl State.stopEntry s1 with hold := [] }
  let s3 := allTables.foldl State.endYield s2
  s3.perform (allTables.map .tail)

/-- The step consumed: STOPPING with cause STEP_DONE and the step-done flag, once the consuming event's own work is
whole (R174). -/
def State.endStep (s : State) : State :=
  if s.stepFlag = true ∧ s.stepConsumed = true ∧ s.runState = .running then
    ({ s with stepDone := true }).enterStopping .stepDone
  else s

/-- The condition for HALTED: every crane slot EMPTY, no table holding its permit (R173). -/
def State.workDone (s : State) : Bool :=
  (allCranes.all fun c => decide ((s.crane c).slot = .empty)) && allTables.all fun t => !(s.table t).permit

/-- Entry into HALTED: the cycle master stops, and poll outstanding becomes no for every station (R167, R173). -/
def State.enterHalted (s : State) : State :=
  { s with runState := .halted, started := false,
           stations := s.stations.map fun n => { n with polled := false } }

/-- The test for HALTED (R173). -/
def State.testHalted (s : State) : State :=
  if s.runState = .stopping ∧ s.workDone = true then s.enterHalted else s

/-- What ends every event: the consumed step, the test for HALTED, and the timers that no longer count. -/
def State.finish (s : State) : State := allTables.foldl State.clearTimers s.endStep.testHalted

end Sys2Proof.Machine
end

