-- ==== Sys2Proof/Machine/Request.lean ====
section
/-! DEFINITION. The frame that every event runs in: supply, the end of the event, the status tag (R202); and the frame of a
management request: who may manage, and its one reply (R192 to R194). -/

namespace Sys2Proof.Machine

/-- The outcome of a command: the controller always goes on. -/
abbrev Answer := Host.Outcome State Fault Refusal

/-- What a command leaves: an event's effect, still to be ended and to raise the status tag, or a reset taken whole. -/
inductive Taken where
  /-- an event: its end and the status tag follow -/
  | event (s : State)
  /-- a reset: the status tag is 0 after it whatever the reset itself changed (R206) -/
  | reset (s : State)
  deriving DecidableEq, Repr

/-- End a command: the event's end, then one rise of the status tag for each watched item changed (R202). -/
def Taken.ended (before : State) : Taken → State
  | .event s => before.tagged s.finish
  | .reset s => s

/-- A command taken under supply. Without supply nothing happens (notes/assumptions/6.md). -/
def State.take (s : State) (act : State → Taken) : Answer :=
  .next (if s.powered then (act s).ended s else s)

/-- An event taken under supply: its effect, its end, and the status tag (R202). -/
def State.event (s : State) (effect : State → State) : Answer := s.take fun s => .event (effect s)

/-! ## Requests (R192, R193) -/

/-- Whether a management request of a source is accepted (R192). -/
def State.mayManage (s : State) (r : Req) : Bool :=
  if s.stations.toList.any fun n => n.manage then
    decide ((s.station r.src.toNat).kind = .source) && (s.station r.src.toNat).manage
  else decide (r.port = .u)

/-- Whether a frame arriving at a port gets past it: Port F must be ENABLED (R180). -/
def State.portTakes (s : State) (p : Port) : Bool := decide (p = .u) || s.enableF

/-- Whether a source station number passes the header check: 1 to 63, and not the controller's own (R181). -/
def State.sourceGood (s : State) (src : Byte) : Bool :=
  decide (1 ≤ src.toNat) && decide (src.toNat ≤ 63) && decide (src.toNat ≠ s.ownStation)

/-- A management request of one code at the controller's own number: dropped before management, DENIED, or acted on
(R180, R181, R192). -/
def State.manage (r : Req) (code : Half) (act : State → Taken) (s : State) : Taken :=
  if s.portTakes r.port && s.sourceGood r.src then
    if s.mayManage r then act s else .event (s.reply r code { result := .denied })
  else .event s

/-- Handle a request and reply (R193). The reply is formed after the request has acted (notes/assumptions/7.md). -/
def State.answered (r : Req) (code : Half) (handle : State → State × Reply) (s : State) : Taken :=
  .event ((handle s).1.reply r code (handle s).2)

/-- A refusal: no change of state. -/
abbrev State.refuse (s : State) (result : Result) (reason : Option Reason := none) : State × Reply :=
  (s, { result := result, detail := (reason.map Reason.code).getD 0 })

/-- An accepted request with its reply data. -/
abbrev State.accept (s : State) (data : List Byte := []) : State × Reply := (s, { result := .ok, data := data })

/-- A management request as a command (R193). -/
def State.request (s : State) (r : Req) (code : Half) (handle : State → State × Reply) : Answer :=
  s.take (State.manage r code (State.answered r code handle))

end Sys2Proof.Machine
end

