-- ==== Sys2Proof/Machine/Crane.lean ====
section
/-! DEFINITION. The crane units' operations: samples (R40 to R42), admission (R43 to R46), the claim recompute and
trespass (R48 to R51), the ends of an operation (R52 to R59), ARREST and abandon (R60, R62), limits (R54, R57). -/

namespace Sys2Proof.Machine

/-! ## Ends (R52) -/

/-- An operation ends: the slot becomes EMPTY, and the last result records the end, the operation kind and the cycle
number (R52). -/
def State.endOp (s : State) (c : Fin 4) (op : OpRecord) (result : OpEnd) : State :=
  s.modCrane c fun k => { k with slot := .empty, last := some ⟨result, op.operation.code, s.cycle⟩ }

/-- The ID of the piece a crane carries, or 0. -/
def Load.pieceId : Load → Nat
  | .piece id => id
  | .none | .untracked _ => 0

/-- The piece ID that the notice of an ended operation carries, or 0: the slot's for a LIFT, the carried piece's for a
LOWER, none for a MOVE (R52, R57; notes/assumptions/21.md). -/
def State.opPiece (s : State) (c : Fin 4) (op : OpRecord) : Nat :=
  match op.operation with
  | .move .. => 0
  | .lift id _ => id
  | .lower => (s.crane c).load.pieceId

/-! ## Motion (R41, R53) -/

/-- One sample at the motion filter (R41). -/
def Crane.takeMotion (k : Crane) (moving : Bool) : Crane :=
  let slot := match k.slot with
    | .inFlight op =>
      match op.operation with
      | .move .. => if moving then .inFlight { op with moved := true } else k.slot
      | .lift .. | .lower => k.slot
    | .empty | .held .. => k.slot
  if moving then { k with moving := true, still := 0, slot := slot }
  else
    let still := min k.config.settle (k.still + 1)
    { k with moving := if still = k.config.settle then false else k.moving, still := still, slot := slot }

/-- The distances of a crane from a target, bridge then trolley. -/
def State.distances (s : State) (c : Fin 4) (tb tt : Int) : Nat × Nat :=
  (((s.cranePosition c).1 - tb).natAbs, ((s.cranePosition c).2 - tt).natAbs)

/-- The end of a MOVE by motion (R53). -/
def State.checkArrival (s : State) (c : Fin 4) : State :=
  let k := s.crane c
  match k.slot with
  | .inFlight op =>
    match op.operation with
    | .move tb tt =>
      if op.moved = true ∧ k.moving = false then
        if s.craneValid c then
          let (db, dt) := s.distances c tb tt
          if db ≤ k.config.bridgeTolerance ∧ dt ≤ k.config.trolleyTolerance then s.endOp c op .complete
          else
            (s.endOp c op .stoppedShort).raise .fault evStoppedShort (unitCrane c) ((min 65535 (max db dt) : Nat) : Int)
        else (s.endOp c op .stoppedShort).raise .fault evStoppedShort (unitCrane c) 0
      else s
    | .lift .. | .lower => s
  | .empty | .held .. => s

/-! ## Load (R42, R55 to R59) -/

def State.setLoad (s : State) (c : Fin 4) (load : Load) : State := s.modCrane c fun k => { k with load := load }

/-- Whether a rise may take a piece: its record exists, and it is neither IN_CUT nor ON_CRANE (R55). -/
def Piece.mayRise (p : Piece) : Bool :=
  decide (p.lifecycle ≠ .inCut) && (match p.location with | .onCrane _ => false | _ => true)

/-- A rise that completes a LIFT (R55). -/
def State.liftComplete (s : State) (c : Fin 4) (op : OpRecord) (id saved : Nat) : State :=
  let s' :=
    if id = 0 then s.setLoad c (.untracked saved)
    else if (s.piece id).any Piece.mayRise then
      (s.changePiece id .lifted fun p => { p with location := .onCrane c }).setLoad c (.piece id)
    else (s.setLoad c (.untracked saved)).raise .fault evLoadUnexpected (unitCrane c) id
  s'.endOp c op .complete

/-- A rise of the load-latch level (R55, R58). -/
def State.latchRise (s : State) (c : Fin 4) : State :=
  let unexpected := (s.setLoad c (.untracked 0)).raise .fault evLoadUnexpected (unitCrane c) 0
  match (s.crane c).slot with
  | .inFlight op =>
    match op.operation with
    | .lift id saved => s.liftComplete c op id saved
    | .move .. | .lower => unexpected
  | .empty | .held .. => unexpected

/-- A fall that completes a LOWER (R56). -/
def State.lowerComplete (s : State) (c : Fin 4) (op : OpRecord) : State :=
  let s' := match (s.crane c).load with
    | .piece id =>
      let place := s.lowerPlace c
      let s1 := (s.changePiece id .lowered fun p => { p with location := place }).setLoad c .none
      match place with
      | .unverified _ => s1.raise .fault evLowerUnverified (unitCrane c) id
      | .zone _ | .onCrane _ | .onTable _ => s1
    | .untracked _ | .none => s.setLoad c .none
  s'.endOp c op .complete

/-- An unexpected fall (R59). -/
def State.loadDropped (s : State) (c : Fin 4) : State :=
  match (s.crane c).load with
  | .piece id =>
    let place := s.fallPlace c
    ((s.changePiece id .loadFall fun p => { p with location := place }).setLoad c .none).raise
      .fault evLoadDropped (unitCrane c) id
  | .untracked _ => (s.setLoad c .none).raise .fault evLoadDropped (unitCrane c) 0
  | .none => s

/-- A fall of the load-latch level (R56, R59). -/
def State.latchFall (s : State) (c : Fin 4) : State :=
  match (s.crane c).slot with
  | .inFlight op =>
    match op.operation with
    | .lower => s.lowerComplete c op
    | .move .. | .lift .. => s.loadDropped c
  | .empty | .held .. => s.loadDropped c

/-- One sample at the load-latch level: primed or resumed and compared with the load, or filtered (R42). -/
def State.takeLatch (s : State) (c : Fin 4) (raw : Bool) : State :=
  let k := s.crane c
  if !k.latchPrimed || k.latchResume then
    let s' := s.modCrane c fun k => { k with latchPrimed := true, latchResume := false, latch := .set raw }
    if raw = true ∧ k.load = .none then s'.latchRise c
    else if raw = false ∧ k.load ≠ .none then s'.latchFall c
    else s'
  else
    let level := k.latch.take (s.channel (bridgeOf c)).depth raw
    let s' := s.modCrane c fun k => { k with latch := level }
    if level.level = k.latch.level then s' else if level.level then s'.latchRise c else s'.latchFall c

/-! ## Claim recompute and trespass (R48 to R50) -/

/-- The region G and the footprint F of a recompute (R48). -/
def State.region (s : State) (c : Fin 4) : List Nat × List Nat :=
  let here := s.footprint c (s.loadRadius c)
  match (s.crane c).slot with
  | .inFlight op =>
    match op.operation with
    | .move tb tt => (s.sweep c (s.loadRadius c) tb tt, here)
    | .lift id saved =>
      let lift := s.footprint c (s.liftRadius id saved)
      (lift, lift)
    | .lower => (here, here)
  | .empty | .held .. => (here, here)

/-- Set the conflict flag of every zone of a list (R9, R50). -/
def State.setConflicts (s : State) (zs : List Nat) : State := s.modZones zs fun z => { z with conflict := true }

/-- The tables that hold the permit of a zone of a list, ascending (R50). -/
def State.permitsOver (s : State) (zs : List Nat) : List (Fin 6) :=
  allTables.filter fun t => zs.any fun z => (s.zone z).permit == some t

/-- A held crane is cancelled by an ARREST or an abandon (R60, R62). -/
def State.cancelHeld (s : State) (c : Fin 4) : State × List Work := s.dropHeld c .cancelled true

/-- The acts of a new trespass: one GUARD notice, one ARREST to the crane's station, which the crane unit takes as any
ARREST, and an ARREST and FAULT of each table whose permit is trespassed (R50). No ARREST is sent, and none is taken,
where the crane has no station. The tables are faulted before a table whose requester set the crane's cancellation emptied
takes that event (R105): DESIGN CHOICE, no rule says which is first (notes/assumptions/52.md). -/
def State.newTrespass (s : State) (c : Fin 4) (newly : List Nat) : State × List Work :=
  match newly with
  | [] => (s, [])
  | z :: _ =>
    let event := if newly.any fun z => !(s.zone z).use.usable then evTrespassKeepOut else evTrespass
    let tables := s.permitsOver newly
    let s1 := (s.raise .guard event (unitCrane c) z).sendArrest (.crane c)
    let (s2, works) := if (s1.stationOf (.crane c)).isSome then s1.cancelHeld c else (s1, [])
    (tables.foldl State.enterFault s2, works)

/-- The claim recompute of a crane (R48 to R50). The acts that follow it come with it, the evaluation for the zones
released last (R49), after the acts of the tables whose sets a trespass's cancellation empties: DESIGN CHOICE, no rule
says which is first (notes/assumptions/56.md). -/
def State.recompute (s : State) (c : Fin 4) : State × List Work :=
  let (g, f) := s.region c
  let old := s.claimedBy c
  let free := f.filter fun z => (s.zone z).freeFor c
  let released := old.filter fun z => !(g.contains z || free.contains z)
  let trespass := f.filter fun z => !(s.zone z).freeFor c
  let newly := trespass.filter fun z => !(s.crane c).trespass.contains z
  let s1 := ((s.modZones released fun z => { z with claim := none }).takeClaims c free).setConflicts trespass
  let (s2, works) := (s1.modCrane c fun k => { k with trespass := trespass }).newTrespass c newly
  (s2, if released.isEmpty then works else works ++ [.eval])

/-- Steps 5 and 6 of a crane sample (R40): the recompute in RUNNING and STOPPING with a valid position, and the
evaluation for a crane whose slot is HELD, which one that follows a release serves for (R99). -/
def State.recomputeStep (s : State) (c : Fin 4) : State × List Work :=
  let (s', works) := if s.runState ≠ .halted ∧ s.craneValid c = true then s.recompute c else (s, [])
  match (s'.crane c).slot with
  | .held .. => (s', if Work.eval ∈ works then works else works ++ [.eval])
  | .empty | .inFlight _ => (s', works)

/-- The crane unit's work for a sample after its station is freshened (R40; the fields of R188). The bridge channel takes
its levels before the trolley channel: DESIGN CHOICE, R17 says only that both take the sample
(notes/assumptions/49.md). -/
def State.craneWork (s : State) (c : Fin 4) (bridge trolley state : Byte) : State × List Work :=
  let s1 := (s.sampleChannel (bridgeOf c) (rawLevels bridge)).sampleChannel (trolleyOf c) (rawLevels trolley)
  let s2 := s1.modCrane c fun k => k.takeMotion (bit state 0)
  ((s2.takeLatch c (bit state 1)).checkArrival c).recomputeStep c

/-! ## Admission (R43 to R46) -/

/-- What a MOVE, LIFT or LOWER frame asks for, with a LIFT's carried radius; none where its payload is too short
(R187). -/
def operationOf (kind : Byte) (payload : List Byte) : Option Operation :=
  if kind = kindMove then
    match get24 payload with
    | none => none
    | some (tb, rest) => (get24 rest).map fun (tt, _) => .move tb tt
  else if kind = kindLift then
    match get16 payload with
    | none => none
    | some (id, rest) => (get16 rest).map fun (radius, _) => .lift id radius
  else some .lower

/-- A LIFT takes its radius from the piece it names (R44). -/
def State.withRadius (s : State) (op : Operation) : Operation :=
  match op with
  | .lift id radius => .lift id (s.liftRadius id radius)
  | .move .. | .lower => op

/-- Checks 1 to 6 of an admission (R43). -/
def State.admissionCheck (s : State) (c : Fin 4) (src : Byte) (op : Operation) : Option Reason :=
  if s.runState = .halted then some .notRunning
  else if s.runState = .stopping then some .stopping
  else if (s.station src.toNat).kind ≠ .source then some .sourceUnknown
  else if s.craneValid c = false then some .positionUnknown
  else if (s.crane c).slot ≠ .empty then some .craneBusy
  else s.ownCheck c op

/-- An admission refused: its ANSWER and its REFUSAL notice (R46). -/
def State.refuseCommand (s : State) (c : Fin 4) (f : Frame) (arrival : Port) (reason : Reason) : State :=
  (s.answer f.kind f.src f.seq arrival .refused (some reason)).raiseRefusal reason (unitCrane c) f.src

/-- An admission granted (R46). -/
def State.admitCommand (s : State) (c : Fin 4) (f : Frame) (record : OpRecord) (g : List Nat) : State :=
  (((s.takeClaims c g).transmit .f (.hall f)).modCrane c fun k => { k with slot := .inFlight record }).consumeStep

/-- An admission held (R46, R97, R104). -/
def State.holdCommand (s : State) (c : Fin 4) (f : Frame) (record : OpRecord) (g : List Nat) : State × List Work :=
  let s1 := (s.modCrane c fun k => { k with slot := .held record f }).answer f.kind f.src f.seq record.port .held none
  let (s2, filled) := (s1.appendHold (.crane c)).postYields c g
  (s2, filled.map .filled)

/-- A MOVE, LIFT or LOWER for a crane's station (R43 to R46, R174). -/
def State.admission (s : State) (c : Fin 4) (f : Frame) (arrival : Port) : State × List Work :=
  match operationOf f.kind f.payload with
  | none => (s, [])
  | some carried =>
    match s.admissionCheck c f.src carried with
    | some reason => (s.refuseCommand c f arrival reason, [])
    | none =>
      let op := s.withRadius carried
      let g := s.requirement c op
      let record : OpRecord :=
        { operation := op, source := f.src, seq := f.seq, port := arrival, entry := s.cycle }
      match s.classify c g with
      | .keepOut => (s.refuseCommand c f arrival .keepOut, [])
      | .held => s.holdCommand c f record g
      | .free =>
        if s.stepFree then (s.admitCommand c f record g, []) else (s.refuseCommand c f arrival .stopping, [])

/-! ## Limits (R54, R57, R102) -/

/-- Cycles since an operation entered its slot state, modulo 2^32 (R54). -/
def State.elapsed (s : State) (entry : CycleNo) : Nat := (s.cycle - entry).toNat

/-- The start limit at a boundary: an unmoved MOVE that reaches it ends as NOT_STARTED (R54). -/
def State.checkStart (s : State) (c : Fin 4) : State :=
  let k := s.crane c
  match k.slot with
  | .inFlight op =>
    match op.operation with
    | .move .. =>
      if op.moved = false ∧ k.config.startLimit ≤ s.elapsed op.entry then
        (s.endOp c op .notStarted).raise .fault evNotStarted (unitCrane c) k.config.startLimit
      else s
    | .lift .. | .lower => s
  | .empty | .held .. => s

/-- The operation limit at a boundary: a LIFT or LOWER that reaches it ends as OP_TIMEOUT (R57). -/
def State.checkTimeout (s : State) (c : Fin 4) : State :=
  let k := s.crane c
  match k.slot with
  | .inFlight op =>
    match op.operation with
    | .lift .. | .lower =>
      if k.config.opLimit ≤ s.elapsed op.entry then
        (s.endOp c op .opTimeout).raise .fault evOpTimeout (unitCrane c) (s.opPiece c op)
      else s
    | .move .. => s
  | .empty | .held .. => s

/-- Whether a held crane has reached its hold limit (R102). -/
def State.holdDue (s : State) (c : Fin 4) : Bool :=
  match (s.crane c).slot with
  | .held op _ => decide ((s.crane c).config.holdLimit ≤ s.elapsed op.entry)
  | .empty | .inFlight _ => false

/-- A held crane that has reached its hold limit leaves the Hold List (R102). -/
def State.checkHold (s : State) (c : Fin 4) : State × List Work :=
  if s.holdDue c then s.dropHeld c .holdExpired true else (s, [])

/-! ## ARREST and abandon (R60, R62) -/

/-- UNIT.ABANDON of a crane, its checks passed (R62). -/
def State.abandonCrane (s : State) (c : Fin 4) : State × List Work :=
  match (s.crane c).slot with
  | .inFlight op => ((s.endOp c op .abandoned).raise .fault evAbandoned (unitCrane c) (s.opPiece c op), [])
  | .held .. => s.cancelHeld c
  | .empty => (s, [])

/-- The crane after RESET RUNTIME (R63). -/
def Crane.runtimeReset (k : Crane) : Crane := { config := k.config, load := k.load }

end Sys2Proof.Machine
end

