-- ==== Sys2Proof/Machine/Segments.lean ====
section
/-! DEFINITION. SEG frames at a table unit: the payload read as an entry (R189), its arrival marks (R72), its arrival
(R71). -/

namespace Sys2Proof.Machine

/-- A SEG payload as it stands on the wire: the entry as stored, and whether a declared length passes its limit, a text
is empty or the kind is none of the seven (R189). -/
structure SegRead where
  entry : Entry
  badLength : Bool
  deriving DecidableEq, Repr

/-- The line fields of a MARK_LINE (R189). -/
def getLine (bytes : List Byte) : Option (EntryBody × List Byte) := do
  let (start, b1) ← get24 bytes
  let (length, b2) ← get16 b1
  let (dots, b3) ← get8 b2
  match b3 with
  | [] => none
  | policy :: rest => some (.line start length dots (bit policy 0), rest)

/-- A rectangle of a PLATE_END (R189). -/
def getRect (bytes : List Byte) : Option (Rect × List Byte) := do
  let (id, b1) ← get16 bytes
  let (width, b2) ← get16 b1
  let (length, rest) ← get16 b2
  some (⟨id, width, length⟩, rest)

/-- The kind part of an entry, and whether its declared length is out of its limits; text and rectangles are stored up to
24 characters and 4 rectangles (R189). -/
def getBody (kind : EntryKind) (bytes : List Byte) : Option ((EntryBody × Bool) × List Byte) :=
  match kind with
  | .markLine => (getLine bytes).map fun (body, rest) => ((body, false), rest)
  | .markText => do
    let (position, b1) ← get24 bytes
    let (n, b2) ← get8 b1
    let (chars, rest) ← getBytes n b2
    some ((.text position (chars.take 24), decide (n = 0 ∨ 24 < n)), rest)
  | .plateEnd => do
    let (r, b1) ← get8 bytes
    let (rects, rest) ← getMany getRect r b1
    some ((.rects (rects.take 4), decide (4 < r)), rest)
  | .other _ => some ((.plain, true), bytes)
  | .plateBegin | .pierceCut | .cut | .traverse => some ((.plain, false), bytes)

/-- Read a SEG payload; none where its fixed part, kind part or path data runs past it (R189). The path data are stored
up to 1,024 bytes. -/
def readSeg (src : Byte) (seq : Half) (payload : List Byte) : Option SegRead := do
  let (kindCode, b1) ← get8 payload
  let kind := entryKindOf (BitVec.ofNat 8 kindCode)
  let (segment, b2) ← get16 b1
  let (piece, b3) ← get16 b2
  let (tag, b4) ← get16 b3
  let (arcLimit, b5) ← get16 b4
  let (pathLength, b6) ← get16 b5
  let ((body, bad), b7) ← getBody kind b6
  let (path, _) ← getBytes pathLength b7
  some { entry := { kind := kind, segment := BitVec.ofNat 16 segment, piece := piece, tag := tag, arcLimit := arcLimit,
                    body := body, path := path.take 1024, source := src, seq := seq, marks := [] },
         badLength := bad || decide (1024 < pathLength) }

/-- The fields that a well-formed entry of a kind must agree in (R72, BAD_FIELDS), beside the declared lengths. -/
def Entry.badFields (e : Entry) : Bool :=
  match e.kind with
  | .markLine =>
    match e.body with
    | .line _ length dots _ => decide (dots = 0) || decide (length < dots)
    | .plain | .text .. | .rects _ => false
  | .plateBegin => decide (e.piece = 0)
  | .pierceCut | .cut => decide (e.arcLimit = 0)
  | .traverse | .markText | .plateEnd | .other _ => false

/-- The arrival marks of an entry, in the order of R70 (R72). -/
def Table.arrivalMarks (x : Table) (r : SegRead) : List Mark :=
  let e := r.entry
  (if e.kind ≠ .plateBegin ∧ x.expected.isSome ∧ x.expected ≠ some e.segment then [Mark.seqGap] else []) ++
  (if e.kind.isMark = true ∧ x.config.marker = none then [Mark.noMarker] else []) ++
  (if r.badLength || e.badFields then [Mark.badFields] else [])

/-- The table with an entry appended (R71, R72). -/
def Table.appended (x : Table) (r : SegRead) (port : Port) : Table :=
  { x.restartStall with
      queue := x.queue ++ [{ r.entry with marks := x.arrivalMarks r }], expected := some (r.entry.segment + 1),
      lastSource := some (r.entry.source, port), state := if x.state = TableState.idle then .queued else x.state }.summarise

/-- The most entries a Segment Queue holds (R70). -/
def queueCapacity : Nat := 24

/-- A SEG frame for a table's controller station (R71); head processing ends the handling of each arrival, of a refused
one too (R73). A payload that runs short is dropped with no change to the table (R189). -/
def State.takeSeg (s : State) (t : Fin 6) (f : Frame) (arrival : Port) : State × List Work :=
  match readSeg f.src f.seq f.payload with
  | none => (s, [])
  | some r =>
    if (s.station f.src.toNat).kind ≠ .source then
      ((s.answer f.kind f.src f.seq arrival .refused (some .sourceUnknown)).raiseRefusal
        .sourceUnknown (unitTable t) f.src, [.act t])
    else if queueCapacity ≤ (s.table t).queue.length then
      (((s.modTable t fun x => { x with overrun := true }).answer f.kind f.src f.seq arrival .refused
        (some .queueFull)).raise .flow evQueueOverrun (unitTable t) r.entry.segment.toNat, [.act t])
    else (s.modTable t fun x => x.appended r arrival, [.act t])

end Sys2Proof.Machine
end

