-- ==== Sys2Proof/Machine/AxisRequests.lean ====
section
/-! DEFINITION. The requests of Axis Channels: AXIS.SET, AXIS.GET, AXIS.PRESET (R19, R20, R32). -/

namespace Sys2Proof.Machine

/-- Whether the owner of a channel is free of work on it: the owning crane's slot EMPTY, or the owning marker without a
line (R19, R32). -/
def State.ownerFree (s : State) (a : Fin 12) : Bool :=
  match asFin 4 (a.val / 2) with
  | some c => decide ((s.crane c).slot = .empty)
  | none =>
    match asFin 4 (a.val - 8) with
    | some m => (s.marker m).line.isNone
    | none => true

/-- The ranges of the four numeric values of a channel (R18). -/
abbrev axisConfigInRange (depth : Nat) (reference : Int) (tolerance pitch : Nat) : Prop :=
  within 1 4 depth ∧ inPositionRange reference ∧ tolerance ≤ 65535 ∧ within 1 65535 pitch

/-- A channel after a change of mode: UNHOMED and unprimed, the ILLEGAL flag cleared; in TWO mode S3 reads 0
(R19, R21, R22). -/
def Channel.remoded (ch : Channel) : Channel :=
  { ch.unprime with illegal := false, l3 := match ch.mode with
      | .two => {}
      | .three => ch.l3 }

/-- A filtered level with its candidate run cleared (R19). -/
def Level.rested (l : Level) : Level := { l with run := 0 }

/-- A channel with its candidate runs cleared by a change of filter depth (R19). -/
def Channel.rested (ch : Channel) : Channel :=
  { ch with l1 := ch.l1.rested, l2 := ch.l2.rested, l3 := ch.l3.rested, lref := ch.lref.rested }

/-- A channel configured anew (R19). -/
def Channel.configured (ch : Channel) (mode : Mode) (depth : Nat) (reference : Int) (tolerance pitch : Nat) : Channel :=
  let ch' := { ch with mode := mode, depth := depth, reference := reference, tolerance := tolerance, pitch := pitch }
  if mode ≠ ch.mode then ch'.remoded else if depth ≠ ch.depth then ch'.rested else ch'

/-- The crane whose bridge channel this is (R17). -/
def bridgeOwner (a : Fin 12) : Option (Fin 4) := allCranes.find? fun c => bridgeOf c = a

/-- The load-latch run of the crane whose bridge channel changes its filter depth is cleared (R42). -/
def State.restLatch (s : State) (a : Fin 12) : State :=
  match bridgeOwner a with
  | none => s
  | some c => s.modCrane c fun k => { k with latch := k.latch.rested }

/-- AXIS.SET (R19). -/
def handleAxisSet (channel mode depth : Nat) (reference : Int) (tolerance pitch : Nat) (s : State) : State × Reply :=
  match asFin 12 channel with
  | none => s.refuse .notFound
  | some a =>
    if s.runState ≠ .halted ∧ s.ownerFree a = false then s.refuse .busy
    else
      match modeOf mode with
      | none => s.refuse .badValue
      | some m =>
        if ¬axisConfigInRange depth reference tolerance pitch then s.refuse .badValue
        else
          let s1 := s.modChannel a fun ch => ch.configured m depth reference tolerance pitch
          (if depth ≠ (s.channel a).depth then s1.restLatch a else s1).accept

def execAxisSet (r : Req) (channel mode depth : Nat) (reference : Int) (tolerance pitch : Nat) (s : State) : Answer :=
  s.request r 0x0201#16 (handleAxisSet channel mode depth reference tolerance pitch)

/-- A phase state in one byte: bit 0 S1, bit 1 S2, bit 2 S3, as a sample carries it (R188). -/
def Phase.put (p : Phase) : List Byte :=
  put8 ((if p.s1 then 1 else 0) + (if p.s2 then 2 else 0) + (if p.s3 then 4 else 0))

/-- A channel as AXIS.GET returns it, in the order of R18 and R20. -/
def Channel.put (ch : Channel) : List Byte :=
  put8 ch.mode.code ++ put8 ch.depth ++ put24 ch.reference ++ put16 ch.tolerance ++ put16 ch.pitch ++
  put24 ch.position ++ put8 (if ch.homed then 0 else 1) ++ putFlag ch.limit ++ putFlag ch.illegal ++
  putFlag ch.primed ++ putFlag ch.l1.level ++ putFlag ch.l2.level ++ putFlag ch.l3.level ++ putFlag ch.lref.level ++
  putOption Phase.put ch.lastValid ++ putNat32 ch.forward.toNat ++ putNat32 ch.backward.toNat ++ putNat32 ch.lastDrift

/-- AXIS.GET (R20). -/
def handleAxisGet (channel : Nat) (s : State) : State × Reply :=
  match asFin 12 channel with
  | none => s.refuse .notFound
  | some a => s.accept (s.channel a).put

def execAxisGet (r : Req) (channel : Nat) (s : State) : Answer := s.request r 0x0202#16 (handleAxisGet channel)

/-- AXIS.PRESET (R32). -/
def handleAxisPreset (channel : Nat) (position : Int) (s : State) : State × Reply :=
  match asFin 12 channel with
  | none => s.refuse .notFound
  | some a =>
    if s.ownerFree a = false then s.refuse .busy
    else if ¬inPositionRange position then s.refuse .badValue
    else (s.modChannel a fun ch => { ch with position := position, homed := true, limit := false }).accept

def execAxisPreset (r : Req) (channel : Nat) (position : Int) (s : State) : Answer :=
  s.request r 0x0203#16 (handleAxisPreset channel position)

end Sys2Proof.Machine
end

