-- ==== Sys2Proof/Machine/CraneRequests.lean ====
section
/-! DEFINITION. The requests of Crane Operations: CRANE.SET, CRANE.GET, and UNIT.ABANDON of a crane or a table (R36, R37, R62,
R90). -/

namespace Sys2Proof.Machine

/-- CRANE.SET (R36). -/
def handleCraneSet (crane : Nat) (values : CraneConfig) (s : State) : State × Reply :=
  match asFin 4 crane with
  | none => s.refuse .notFound
  | some c =>
    if (s.crane c).slot ≠ .empty then s.refuse .busy
    else if ¬craneConfigInRange values then s.refuse .badValue
    else (s.modCrane c fun k => { k with config := values }).accept

def execCraneSet (r : Req) (crane : Nat) (values : CraneConfig) (s : State) : Answer :=
  s.request r 0x0301#16 (handleCraneSet crane values)

/-! ## CRANE.GET (R37) -/

/-- The eight values of R35 in order. -/
def putCraneConfig (v : CraneConfig) : List Byte :=
  put16 v.bridgeMargin ++ put16 v.trolleyMargin ++ put8 v.settle ++ put16 v.bridgeTolerance ++
  put16 v.trolleyTolerance ++ put16 v.startLimit ++ put16 v.opLimit ++ put16 v.holdLimit

/-- A load: 0 none, 1 a piece ID, 2 UNTRACKED with its radius (R38). -/
def Load.put : Load → List Byte
  | .none => put8 0
  | .piece id => put8 1 ++ put16 id
  | .untracked radius => put8 2 ++ put16 radius

/-- The last result, with the operation kind and the cycle number where there is one (R38). -/
def putLastResult : Option LastResult → List Byte
  | none => put8 0
  | some l => put8 l.result.code ++ put8 l.kind ++ put32 l.cycle

/-- The fields of an operation record (R39); those of another operation are left out. -/
def OpRecord.put (op : OpRecord) (copy : List Byte) : List Byte :=
  put8 op.operation.code ++ [op.source] ++ put16 op.seq.toNat ++
  (match op.operation with
   | .move tb tt => put24 tb ++ put24 tt
   | .lift id radius => put16 id ++ put16 radius
   | .lower => []) ++
  copy ++ put8 (match op.port with | .u => 0 | .f => 1) ++ put32 op.entry ++
  (match op.operation with
   | .move .. => putFlag op.moved
   | .lift .. | .lower => [])

/-- The move slot; a held frame copy as its kind, source station and sequence (R37). -/
def Slot.put (slot : Slot) : List Byte :=
  put8 slot.code ++ match slot with
    | .empty => []
    | .held op copy => op.put ([copy.kind, copy.src] ++ put16 copy.seq.toNat)
    | .inFlight op => op.put []

/-- A crane's state, in the order of R38. R191 gives a set of zones no layout; the trespass set is sent as a list, a count
and the zone numbers: DEDUCED (notes/assumptions/42.md). -/
def Crane.putState (k : Crane) : List Byte :=
  put8 (if k.moving then 0 else 1) ++ put8 k.still ++ putFlag k.latchPrimed ++ putFlag k.latch.level ++
  put8 k.latch.run ++ k.load.put ++ put8 k.claimed ++ putList put8 k.trespass ++ putLastResult k.last

/-- CRANE.GET (R37). -/
def handleCraneGet (crane : Nat) (s : State) : State × Reply :=
  match asFin 4 crane with
  | none => s.refuse .notFound
  | some c =>
    let k := s.crane c
    s.accept (putCraneConfig k.config ++ putOption put8 (s.stationOf (.crane c)) ++ k.putState ++ k.slot.put ++
      putFlag (s.craneValid c))

def execCraneGet (r : Req) (crane : Nat) (s : State) : Answer := s.request r 0x0302#16 (handleCraneGet crane)

/-! ## UNIT.ABANDON (R62, R90, R119) -/

/-- A unit code that names a crane or a table (R190). -/
def abandonUnit (unit : Nat) : Option HoldUnit :=
  match asFin 4 unit with
  | some c => some (.crane c)
  | none => if unit < 0x10 then none else (asFin 6 (unit - 0x10)).map .table

/-- Whether a unit's station is bound and STALE (R62, R90). -/
def State.isLost (s : State) (k : StationKind) : Bool :=
  match s.stationOf k with
  | none => false
  | some n => (s.station n).freshness = .stale

/-- The arc state set to OFF by UNIT.ABANDON, a fall if it was ON; the mark for resumption stays (R119). -/
def State.arcOff (s : State) (t : Fin 6) : State :=
  (if (s.arc t).arc.level then s.arcFall t else s).modArc t fun a => { a with arc := {} }

/-- UNIT.ABANDON of a table, its checks passed (R90, R119, R139). The in-flight list is emptied, the overrun base becoming
the present cycle (R115), before the arc is set OFF: DESIGN CHOICE, no rule says which is first
(notes/assumptions/53.md). -/
def State.abandonTable (s : State) (t : Fin 6) : State × List Work :=
  let s1 := (((s.emptyFlights t).endMarks (s.table t).config.marker).modArc t fun a => { a with watch := none }).arcOff t
  if s1.faultDropDue t then (s1.dropPermit t, [.eval]) else (s1, [.tail t])

/-- UNIT.ABANDON (R62, R90). -/
def handleUnitAbandon (unit : Nat) (s : State) : State × Reply :=
  match abandonUnit unit with
  | none => s.refuse .notFound
  | some (.crane c) =>
    if s.isLost (.crane c) then ((s.abandonCrane c).1.perform (s.abandonCrane c).2).accept else s.refuse .busy
  | some (.table t) =>
    if s.isLost (.table t) then ((s.abandonTable t).1.perform (s.abandonTable t).2).accept else s.refuse .busy

def execUnitAbandon (r : Req) (unit : Nat) (s : State) : Answer := s.request r 0x0303#16 (handleUnitAbandon unit)

end Sys2Proof.Machine
end

