-- ==== Sys2Proof/Machine/Geometry.lean ====
section
/-! DEFINITION. The requests of Hall Geometry and Zone Arithmetic: GEOMETRY.SET, GEOMETRY.GET, ZONE.SET, ZONE.GET, ZONE.ACK
(R2, R3, R7 to R9). -/

namespace Sys2Proof.Machine

/-! ## GEOMETRY.SET and GEOMETRY.GET (R2, R3) -/

/-- The range of one axis part (R1). -/
abbrev axisPartInRange (o : Int) (w z maxZones : Nat) : Prop := inPositionRange o ∧ within 1 65535 w ∧ within 1 maxZones z

/-- Whether a piece record is located at a zone at or beyond a count (R2). -/
def State.pieceBeyond (s : State) (count : Nat) : Bool :=
  s.stock.any fun p => match p.location with
    | .zone z => decide (count ≤ z)
    | .onCrane _ | .onTable _ | .unverified _ => false

/-- Whether a zone at or beyond a count has the use of a table that is not IDLE (R2). -/
def State.tableBeyond (s : State) (count : Nat) : Bool :=
  (List.range' count (128 - count)).any fun z => match (s.zone z).use with
    | .table t => decide ((s.table t).state ≠ .idle)
    | .none | .floor | .rack | .aisle | .keepOut => false

/-- A zone record after GEOMETRY.SET: below the new count all but the claim is kept; at or beyond it, back to NONE
(R2). -/
def Zone.regridded (z : Zone) (kept : Bool) : Zone :=
  if kept then { z with claim := none }
  else { z with use := .none, capacity := 0, stored := 0, claim := none, conflict := false }

/-- Write a geometry (R2). -/
def State.writeGeometry (s : State) (bridge trolley : AxisGeometry) : State :=
  let s1 := { s with geometrySet := true, bridge := bridge, trolley := trolley }
  let s2 := (List.range 128).foldl (fun s z => s.modZone z fun k => k.regridded (decide (z < bridge.zones * trolley.zones))) s1
  allCranes.foldl (fun s c => s.modCrane c fun k => { k with claimed := 0, trespass := [] }) s2

/-- GEOMETRY.SET (R2). -/
def handleGeometrySet (ob : Int) (wb zb : Nat) (ot : Int) (wt zt : Nat) (s : State) : State × Reply :=
  if s.runState ≠ .halted then s.refuse .busy
  else if ¬(axisPartInRange ob wb zb 32 ∧ axisPartInRange ot wt zt 16 ∧ zb * zt ≤ 128) then s.refuse .badValue
  else if s.pieceBeyond (zb * zt) then s.refuse .busy
  else if s.tableBeyond (zb * zt) then s.refuse .busy
  else (s.writeGeometry ⟨ob, wb, zb⟩ ⟨ot, wt, zt⟩).accept

def execGeometrySet (r : Req) (ob : Int) (wb zb : Nat) (ot : Int) (wt zt : Nat) (s : State) : Answer :=
  s.request r 0x0101#16 (handleGeometrySet ob wb zb ot wt zt)

/-- The six values of the geometry, as a reply carries them. -/
def AxisGeometry.put (g : AxisGeometry) : List Byte := put24 g.origin ++ put16 g.pitch ++ put8 g.zones

/-- GEOMETRY.GET (R3): while the flag is clear, the six values and the zone count read 0. -/
def handleGeometryGet (s : State) : State × Reply :=
  let bridge := if s.geometrySet then s.bridge else {}
  let trolley := if s.geometrySet then s.trolley else {}
  s.accept (putFlag s.geometrySet ++ bridge.put ++ trolley.put ++ put8 s.zoneCount)

def execGeometryGet (r : Req) (s : State) : Answer := s.request r 0x0102#16 handleGeometryGet

/-! ## ZONE.SET, ZONE.GET, ZONE.ACK (R7 to R9) -/

/-- Whether a use is that of a table that is not IDLE (R7). -/
def State.busyUse (s : State) : Use → Bool
  | .table t => decide ((s.table t).state ≠ .idle)
  | .none | .floor | .rack | .aisle | .keepOut => false

/-- ZONE.SET (R7). -/
def handleZoneSet (zone use table capacity : Nat) (s : State) : State × Reply :=
  let z := s.zone zone
  if s.zoneCount ≤ zone then s.refuse .notFound
  else
    match useOf use table with
    | none => s.refuse .badValue
    | some u =>
      if 15 < capacity then s.refuse .badValue
      else if u ≠ z.use ∧ (z.claim.isSome ∨ z.permit.isSome) then s.refuse .busy
      else if u ≠ z.use ∧ (s.busyUse z.use ∨ s.busyUse u) then s.refuse .busy
      else if capacity < z.stored then s.refuse .badValue
      else if z.stored ≠ 0 ∧ u.stores = false then s.refuse .badValue
      else (s.modZone zone fun k => { k with use := u, capacity := capacity }).accept

def execZoneSet (r : Req) (zone use table capacity : Nat) (s : State) : Answer :=
  s.request r 0x0103#16 (handleZoneSet zone use table capacity)

/-- A zone record as a reply carries it (R8). -/
def Zone.put (z : Zone) : List Byte :=
  z.use.put ++ put8 z.capacity ++ put8 z.stored ++ putOption (fun c : Fin 4 => put8 c.val) z.claim ++
  putOption (fun t : Fin 6 => put8 t.val) z.permit ++ putFlag z.conflict

/-- ZONE.GET (R8). -/
def handleZoneGet (zone : Nat) (s : State) : State × Reply :=
  if s.zoneCount ≤ zone then s.refuse .notFound else s.accept (s.zone zone).put

def execZoneGet (r : Req) (zone : Nat) (s : State) : Answer := s.request r 0x0104#16 (handleZoneGet zone)

/-- Clear the conflict flag of every zone of a list (R9). -/
def State.clearConflicts (s : State) (zs : List Nat) : State := s.modZones zs fun z => { z with conflict := false }

/-- ZONE.ACK (R9). -/
def handleZoneAck (zone : Sel) (s : State) : State × Reply :=
  match zone with
  | .all => (s.clearConflicts (List.range s.zoneCount)).accept
  | .one z => if s.zoneCount ≤ z then s.refuse .notFound else (s.clearConflicts [z]).accept

def execZoneAck (r : Req) (zone : Sel) (s : State) : Answer := s.request r 0x0105#16 (handleZoneAck zone)

end Sys2Proof.Machine
end

