-- ==== Sys2Proof/Machine/Samples.lean ====
section
/-! DEFINITION. The sample path (R164): freshening, and the work of the table units and marker units for a sample (R79,
R127); a station's loss (R165, R166, R138). -/

namespace Sys2Proof.Machine

/-! ## Freshening (R164) -/

/-- A sample freshens its station (R164). -/
def Station.freshened (n : Station) : Station :=
  { n with freshness := .fresh, misses := 0, polled := false, silent := false }

def State.freshen (s : State) (n : Nat) : State := s.modStation n Station.freshened

/-! ## Table samples (R79) -/

/-- Step 6 of R112 and the head processing of a table sample (R73, R119): a table in FAULT whose arc is off drops its
permit, and the owner evaluates. -/
def State.afterArc (s : State) (t : Fin 6) : State × List Work :=
  if s.faultDropDue t then (s.dropPermit t, [.eval, .act t]) else (s, [.act t])

/-- The table unit's work for a sample after its station is freshened (R79; the fields of R188). -/
def State.tableWork (s : State) (t : Fin 6) (state done : Byte) : State × List Work :=
  let s1 := (s.modTable t fun x => { x with ready := bit state 1 }).takeDone t done
  (s1.arcSample t (bit state 0)).afterArc t

/-! ## Marker samples (R127) -/

/-- Step 3 of R127: the struck count taken, a text or line found at its end (R128, R132, R133). The answer says whether
a done is to be reported. -/
def State.takeStruck (s : State) (m : Fin 4) (struck : Byte) : State × Bool :=
  let s1 := s.modMarker m fun k => { k with struck := some struck }.prune
  let k := s1.marker m
  if k.lineDone then (s1.modMarker m fun k => { k with line := none }, true)
  else if k.textDone then
    let piece := (k.text.map TextMark.piece).getD 0
    let s2 := s1.modMarker m fun k => { k with text := none }
    (if piece = 0 then s2 else s2.markPiece piece, true)
  else (s1, false)

/-- Step 4 of R127: the edge-found level accepted as it arrives; a rise in a line whose edge is not yet taken is an edge
(R128, R135). The answer says whether the line is done at the edge. -/
def State.takeEdgeLevel (s : State) (m : Fin 4) (level : Bool) : State × Bool :=
  let k := s.marker m
  let rise := k.edge == some false && level && !k.resume
  let s1 := s.modMarker m fun k => { k with edge := some level, resume := false }
  match k.line with
  | none => (s1, false)
  | some l => if rise && !l.edgeTaken then s1.takeEdge m l else (s1, false)

/-- Step 6 of R127 and the bound table's head processing (R73, R80). -/
def State.reportDone (s : State) (m : Fin 4) (done : Bool) : State × List Work :=
  match s.boundTable m with
  | none => (s, [])
  | some t => (if done then s.takeMarkDone t else s, [.act t])

/-- The marker unit's work for a sample after its station is freshened (R127; the fields of R188). -/
def State.markerWork (s : State) (m : Fin 4) (carriage state struck waiting : Byte) : State × List Work :=
  let s1 := (s.sampleChannel (carriageOf m) (rawLevels carriage)).modMarker m fun k =>
    { k with ready := bit state 1, waiting := waiting.toNat }
  let (s2, ended) := s1.takeStruck m struck
  let (s3, endedAtEdge) := s2.takeEdgeLevel m (bit state 0)
  (s3.feedOne m).reportDone m (ended || endedAtEdge)

/-! ## The sample path (R164) -/

/-- Take a sample's payload at the unit its source station is bound to; a payload not of that unit's form, or a source
of no unit, drops the sample (R164, R188). -/
def State.samplePayload (s : State) (n : Nat) (payload : List Byte) : State × List Work :=
  match (s.station n).kind, payload with
  | .crane c, [bridge, trolley, state] => (s.freshen n).craneWork c bridge trolley state
  | .table t, [state, done] => (s.freshen n).tableWork t state done
  | .marker m, [carriage, state, struck, waiting] =>
    if waiting.toNat ≤ 16 then (s.freshen n).markerWork m carriage state struck waiting else (s, [])
  | _, _ => (s, [])

/-- A SAMPLE addressed to the controller: copied upstream unchanged where the source's mirror flag is set, then taken or
dropped (R164, R182). -/
def State.samplePath (s : State) (f : Frame) : State × List Work :=
  let s1 := if (s.station f.src.toNat).mirror then s.transmit .u (.hall f) else s
  s1.samplePayload f.src.toNat f.payload

/-! ## Loss of a station (R165, R166) -/

/-- The loss of a marker's station (R128, R138). -/
def State.loseMarker (s : State) (m : Fin 4) : State :=
  let s1 := (s.modChannel (carriageOf m) fun a => { a with resume := true }).modMarker m fun k => { k with resume := true }
  match (s.marker m).line with
  | none => s1
  | some l =>
    let s2 := (s1.modMarker m fun k => { k with line := none }).raise .fault evMarkLost (unitMarker m) l.id.toNat
    match s.boundTable m with
    | none => s2
    | some t => s2.enterFault t

/-- A station's loss handed to its unit (R166). -/
def State.loseUnit (s : State) (k : StationKind) : State :=
  match k with
  | .crane c =>
    ((s.modChannel (bridgeOf c) fun a => { a with resume := true }).modChannel (trolleyOf c) fun a =>
      { a with resume := true }).modCrane c fun k => { k with latchResume := true }
  | .table t => s.modArc t fun a => { a with resume := true }
  | .marker m => s.loseMarker m
  | .none | .source => s

/-- A FRESH station becomes STALE: the loss is handed to its unit as part of the transition, and STATION_STALE is raised
(R165, R166; notes/assumptions/22.md). -/
def State.becomeStale (s : State) (n : Nat) : State :=
  let k := (s.station n).kind
  ((s.modStation n fun x => { x with freshness := .stale }).loseUnit k).raise .fault evStationStale k.unitCode n

/-- One miss counted for a polled station (R165). -/
def State.countMiss (s : State) (n : Nat) : State :=
  let x := s.station n
  let misses := min 15 (x.misses + 1)
  let s1 := s.modStation n fun x => { x with polled := false, misses := misses }
  match x.freshness with
  | .fresh => if x.missLimit ≤ misses then s1.becomeStale n else s1
  | .stale => s1
  | .never =>
    if x.missLimit ≤ misses ∧ x.silent = false then
      (s1.modStation n fun x => { x with silent := true }).raise .fault evStationSilent x.kind.unitCode n
    else s1

/-- Whether a station's poll of the cycle that ends has found no sample (R165). -/
def State.missDue (s : State) (n : Nat) : Bool := (s.station n).polled

/-- Whether the miss that a station's unanswered poll calls for reaches its miss limit in a given freshness (R165). -/
def State.limitDue (s : State) (n : Nat) (freshness : Freshness) : Bool :=
  let x := s.station n
  x.polled && decide (x.freshness = freshness) && decide (x.missLimit ≤ min 15 (x.misses + 1))

end Sys2Proof.Machine
end

