-- ==== Sys2Proof/Machine/Cycle.lean ====
section
/-! DEFINITION. The cycle master's boundary (R165 to R168) and what the units do at it (R54, R57, R82, R83, R102, R114);
the links of the two ports (R175, R177). -/

namespace Sys2Proof.Machine

/-! ## The boundary (R168) -/

/-- Step 1 of R168: the misses of the cycle that ends, in ascending order of station (notes/assumptions/23.md). -/
def State.countMisses (s : State) : State :=
  (List.range 64).foldl (fun s n => if s.missDue n then s.countMiss n else s) s

/-- One POLL of a schedule entry (R168). -/
def State.poll (s : State) (n : Nat) : State :=
  let s1 := s.originate .f kindPoll (BitVec.ofNat 8 n) (put32 s.cycle)
  if (s.station n).kind.isBound then s1.modStation n fun x => { x with polled := true } else s1

/-- The schedule entry of the present cycle: the one of number (cycle number mod 32) (R168, R170). -/
def State.currentEntry (s : State) : List Nat :=
  s.scheduleEntry ⟨s.cycle.toNat % 32, Nat.mod_lt _ (by decide)⟩

/-- Steps 2 to 5 of R168: the cycle number, the CYCLE frame, the polls, the trim. -/
def State.beginCycle (s : State) : State :=
  let s1 := { s with cycle := s.cycle + 1 }
  let s2 := s1.originate .f kindCycle 0#8 (put32 s1.cycle)
  let s3 := s2.currentEntry.foldl State.poll s2
  { s3 with cycleTrim := s3.trim }

/-- The crane limits, each crane in ascending order (R54, R57). -/
def State.craneLimits (s : State) : State := allCranes.foldl (fun s c => (s.checkStart c).checkTimeout c) s

/-- The Hold List examined oldest first for expiry (R102). -/
def State.expireHold : List HoldEntry → State → State × List Work
  | [], s => (s, [])
  | e :: rest, s =>
    match e.unit with
    | .table _ => State.expireHold rest s
    | .crane c =>
      let (s1, works) := s.checkHold c
      let (s2, more) := State.expireHold rest s1
      (s2, works ++ more)

/-- The cycle-based timers of the tables and their arc monitors (R82, R83, R114). -/
def State.tableTimers (s : State) : State :=
  allTables.foldl (fun s t => ((s.stallBoundary t).lingerBoundary t).wearBoundary t) s

/-- What the units do at a boundary after the cycle number has advanced: limits, expiries and timers, then what they set
off, then each table's head processing (R73, R168; notes/assumptions/24.md). -/
def State.unitBoundary (s : State) : State :=
  let (s1, works) := State.expireHold s.hold s.craneLimits
  s1.tableTimers.perform (works ++ allTables.map .act)

/-- A cycle boundary, with or without a cycle that ends by it (R167, R168). -/
def State.boundary (s : State) (ending : Bool) : State :=
  ((if ending then s.countMisses else s).beginCycle).unitBoundary

/-! ## Links (R175, R177) -/

/-- A station that the loss of Port F's link makes STALE: FRESH, of side FIELD (R175). -/
def Station.lostWithLink (x : Station) : Bool := decide (x.side = .field) && decide (x.freshness = .fresh)

/-- Every FRESH field station becomes STALE with its miss count at its miss limit (R175). -/
def State.loseField (s : State) : State :=
  (List.range 64).foldl (fun s n =>
    if (s.station n).lostWithLink then
      (s.modStation n fun x => { x with misses := x.missLimit }).becomeStale n
    else s) s

/-- Port F's link goes from UP to DOWN: the loss of the field link (R175, R177, R205). -/
def State.loseLinkF (s : State) : State :=
  let state := s.runState
  let s1 := { s with linkF := false, linkChangeF := true, enableF := false,
                     enableChangeF := s.enableChangeF || s.enableF, lossCount := min 255 (s.lossCount + 1) }
  let s2 := s1.loseField.raise .guard evLinkLost unitPortF state.code
  match state with
  | .running => s2.enterStopping .linkLost
  | .stopping => { s2 with stopCause := .linkLost }
  | .halted => s2

/-- Port F's link state as its physical link has it; a change is one event (R177). -/
def State.setLinkF (s : State) (up : Bool) : State :=
  if up = s.linkF then s
  else if up then { s with linkF := true, linkChangeF := true }
  else s.loseLinkF

/-- Port U's link state as its physical link has it (R177). -/
def State.setLinkU (s : State) (up : Bool) : State :=
  if up = s.linkU then s else { s with linkU := up, linkChangeU := true }

end Sys2Proof.Machine
end

