-- ==== Sys2Proof/Machine/Management.lean ====
section
/-! DEFINITION. The requests of the hall link and of the management block: PORT.ENABLE, PORT.DISABLE, PORT.ACK, PORT.GET
(R178, R179), DEVICE.SET, DEVICE.GET (R195, R196), STATUS.GET (R203), NOTICE.MASK, NOTICE.ACK, NOTICE.GET (R199 to R201),
RESET (R204 to R206 and the reset tables of every chapter). -/

namespace Sys2Proof.Machine

/-! ## Ports (R178, R179) -/

/-- PORT.ENABLE (R178). -/
def handlePortEnable (port : Nat) (s : State) : State × Reply :=
  match portOf port with
  | none => s.refuse .badValue
  | some .u => s.accept
  | some .f => if s.linkF then ({ s with enableF := true }).accept else s.refuse .busy

def execPortEnable (r : Req) (port : Nat) (s : State) : Answer := s.request r 0x0901#16 (handlePortEnable port)

/-- PORT.DISABLE (R178). -/
def handlePortDisable (port : Nat) (s : State) : State × Reply :=
  match portOf port with
  | none => s.refuse .badValue
  | some .u => s.refuse .badValue
  | some .f => if s.runState = .halted then ({ s with enableF := false }).accept else s.refuse .busy

def execPortDisable (r : Req) (port : Nat) (s : State) : Answer := s.request r 0x0902#16 (handlePortDisable port)

/-- PORT.ACK (R179). -/
def handlePortAck (port : Sel) (s : State) : State × Reply :=
  match port with
  | .all => ({ s with linkChangeU := false, linkChangeF := false, enableChangeF := false }).accept
  | .one n =>
    match portOf n with
    | none => s.refuse .badValue
    | some .u => ({ s with linkChangeU := false }).accept
    | some .f => ({ s with linkChangeF := false, enableChangeF := false }).accept

def execPortAck (r : Req) (port : Sel) (s : State) : Answer := s.request r 0x0903#16 (handlePortAck port)

/-- A link state or enable state by its code: UP and ENABLED are 0, DOWN and DISABLED are 1 (R177, R191). -/
def putUp (up : Bool) : List Byte := put8 (if up then 0 else 1)

/-- PORT.GET (R179). -/
def handlePortGet (s : State) : State × Reply :=
  s.accept (putUp s.linkU ++ putFlag s.linkChangeU ++ putUp s.linkF ++ putFlag s.linkChangeF ++ putUp s.enableF ++
    putFlag s.enableChangeF)

def execPortGet (r : Req) (s : State) : Answer := s.request r 0x0904#16 handlePortGet

/-! ## Device settings (R195, R196) -/

/-- The three settings as a reply carries them (R195). -/
def State.putSettings (s : State) : List Byte := put8 s.ownStation ++ putOption put8 s.report ++ put8 s.policy.code

/-- DEVICE.SET (R195). -/
def handleDeviceSet (own : Nat) (report : Option Nat) (policy : Nat) (s : State) : State × Reply :=
  match policyOf policy with
  | none => s.refuse .badValue
  | some p =>
    if ¬(within 1 63 own ∧ ∀ n ∈ report, within 1 63 n ∧ n ≠ own) then s.refuse .badValue
    else if own ≠ s.ownStation ∧ s.runState ≠ .halted then s.refuse .busy
    else if own ≠ s.ownStation ∧ ((s.station own).kind ≠ .none ∨ s.schedule.toList.any fun l => l.contains own) then
      s.refuse .inUse
    else
      let s1 := { s with ownStation := own, report := report, policy := p }
      let s2 := if s.report.isNone ∧ report.isSome then s1.sendUnsent noticeClasses else s1
      s2.accept s2.putSettings

def execDeviceSet (r : Req) (own : Nat) (report : Option Nat) (policy : Nat) (s : State) : Answer :=
  s.request r 0x0A01#16 (handleDeviceSet own report policy)

/-- The Ethernet address, most significant byte first (R187, R196). -/
def putAddress (a : EthAddr) : List Byte :=
  [a.extractLsb' 40 8, a.extractLsb' 32 8, a.extractLsb' 24 8, a.extractLsb' 16 8, a.extractLsb' 8 8,
   a.extractLsb' 0 8]

/-- DEVICE.GET (R196). -/
def handleDeviceGet (s : State) : State × Reply :=
  s.accept (Config.partCode ++ [Config.revisionLetter] ++ putAddress Config.ethernetAddress ++ s.putSettings)

def execDeviceGet (r : Req) (s : State) : Answer := s.request r 0x0A02#16 handleDeviceGet

/-! ## STATUS.GET (R203) -/

/-- The status summary (R203). -/
def State.putStatus (s : State) : List Byte :=
  put8 s.runState.code ++ putFlag s.stepFlag ++ putFlag s.stepConsumed ++ putFlag s.stepDone ++ put8 s.stopCause.code ++
  put32 s.cycle ++ putUp s.linkU ++ putUp s.linkF ++ putUp s.enableF ++ putFlag s.linkChangeU ++
  putFlag s.linkChangeF ++ putFlag s.enableChangeF ++ [s.classSet Notice.pending, s.classSet Notice.masked] ++
  (allTables.flatMap fun t => put8 (s.table t).state.code ++ put8 (s.table t).queue.length) ++
  (allCranes.flatMap fun c => put8 (s.crane c).slot.code ++ putFlag (s.craneValid c)) ++
  put16 s.stock.length ++ put8 s.resetCount ++ put8 s.lossCount ++ [s.statusTag]

/-- STATUS.GET (R203). -/
def handleStatusGet (s : State) : State × Reply := s.accept s.putStatus

def execStatusGet (r : Req) (s : State) : Answer := s.request r 0x0A03#16 handleStatusGet

/-! ## Notices (R199 to R201) -/

/-- Write the mask; GUARD stays unmasked (R199). -/
def State.writeMask (s : State) (classes : Byte) : State :=
  noticeClasses.foldl (fun s k =>
    s.setNotice k { s.notice k with masked := decide (k ≠ .guard) && k.isIn classes }) s

/-- NOTICE.MASK (R199). -/
def handleNoticeMask (classes : Byte) (s : State) : State × Reply :=
  let unmasked := noticeClasses.filter fun k => (s.notice k).masked
  let s1 := (s.writeMask classes).sendUnsent unmasked
  s1.accept [s1.classSet Notice.masked]

def execNoticeMask (r : Req) (classes : Byte) (s : State) : Answer := s.request r 0x0A04#16 (handleNoticeMask classes)

/-- Acknowledge the classes of a set: pending and unsent cleared, the count 0; the last detail is kept (R200). -/
def State.acknowledge (s : State) (classes : Byte) : State :=
  noticeClasses.foldl (fun s k =>
    if k.isIn classes then s.setNotice k { s.notice k with pending := false, unsent := false, count := 0 } else s) s

/-- NOTICE.ACK (R200). -/
def handleNoticeAck (classes : Byte) (s : State) : State × Reply := (s.acknowledge classes).accept

def execNoticeAck (r : Req) (classes : Byte) (s : State) : Answer := s.request r 0x0A05#16 (handleNoticeAck classes)

/-- A class as NOTICE.GET returns it (R201). -/
def putNotice (k : NoticeClass) (n : Notice) : List Byte :=
  putFlag n.pending ++ putFlag n.unsent ++ putFlag n.masked ++ put8 n.count ++
  putOption (fun d : Detail => put8 d.code ++ put8 d.unit ++ detailValue k d.value) n.detail

/-- NOTICE.GET (R201). -/
def handleNoticeGet (s : State) : State × Reply := s.accept (noticeClasses.flatMap fun k => putNotice k (s.notice k))

def execNoticeGet (r : Req) (s : State) : Answer := s.request r 0x0A06#16 handleNoticeGet

/-! ## RESET (R204) -/

/-- Every block at its values after RESET FULL: the power-on values, but for the link states, which are as the ports see
them, and the reset history (R16, R34, R63, R91, R109, R123, R140, R159, R176, R186, R206). -/
def State.fullReset (s : State) : State :=
  { State.reset with
    linkU := s.linkU, linkF := s.linkF, resetCount := s.resetCount, lossCount := s.lossCount, sentU := s.sentU,
    sentF := s.sentF, pending := s.pending }

/-- A station after RESET RUNTIME (R176). -/
def Station.runtimeReset (x : Station) : Station :=
  { x with freshness := .never, misses := 0, polled := false, silent := false }

/-- Every block at its values after RESET RUNTIME, the plates in cut still to be returned (R16, R34, R63, R91, R109, R123,
R140, R159, R176, R186, R206). -/
def State.runtimeValues (s : State) : State :=
  { s with
    zones := s.zones.map fun z => { z with claim := none, permit := none, conflict := false },
    channels := s.channels.map Channel.runtimeReset,
    cranes := s.cranes.map Crane.runtimeReset,
    hold := [],
    tables := s.tables.map Table.runtimeReset,
    arcs := s.arcs.map fun a => a.runtimeReset s.cycle,
    markers := s.markers.map Marker.runtimeReset,
    stations := s.stations.map Station.runtimeReset,
    runState := .halted,
    started := false,
    notices := Vector.replicate 5 {},
    statusTag := 0 }

/-- RESET RUNTIME: every block's values, then the RETURNED frames in ascending order of table (R157, R204). -/
def State.runtimeReset (s : State) : State :=
  allTables.foldl (fun s' t => s'.returnPlate (s.table t).plate) s.runtimeValues

/-- RESET with its scope byte, accepted from a source that may manage (R204): 0 is FULL, 1 is RUNTIME (R191). The reply is
formed after the count has risen and before the reset. -/
def takeReset (r : Req) (scope : Nat) (s : State) : Taken :=
  if 1 < scope then State.answered r 0x0A07#16 (fun s => s.refuse .badValue) s
  else if s.runState ≠ .halted then State.answered r 0x0A07#16 (fun s => s.refuse .busy) s
  else
    let s1 := { s with resetCount := min 255 (s.resetCount + 1) }
    let s2 := s1.reply r 0x0A07#16 { result := .ok, data := put8 scope ++ put8 s1.resetCount }
    .reset (if scope = 0 then s2.fullReset else s2.runtimeReset)

def execResetFull (r : Req) (scope : Nat) (s : State) : Answer := s.take (State.manage r 0x0A07#16 (takeReset r scope))

def execResetRuntime (r : Req) (scope : Nat) (s : State) : Answer :=
  s.take (State.manage r 0x0A07#16 fun s => takeReset r scope s)

end Sys2Proof.Machine
end

