-- ==== Sys2Proof/Machine/MarkerRequests.lean ====
section
/-! DEFINITION. The requests of Part Marking: MARKER.SET and MARKER.GET (R125, R126). -/

namespace Sys2Proof.Machine

/-- The ranges of look-ahead and edge margin (R124). -/
abbrev markerConfigInRange (lookAhead : Int) (edgeMargin : Nat) : Prop :=
  -65535 ≤ lookAhead ∧ lookAhead ≤ 65535 ∧ edgeMargin ≤ 65535

/-- MARKER.SET (R125). -/
def handleMarkerSet (marker : Nat) (lookAhead : Int) (edgeMargin : Nat) (s : State) : State × Reply :=
  match asFin 4 marker with
  | none => s.refuse .notFound
  | some m =>
    let k := s.marker m
    if k.line.isSome ∨ k.text.isSome then s.refuse .busy
    else if ¬markerConfigInRange lookAhead edgeMargin then s.refuse .badValue
    else (s.modMarker m fun k => { k with lookAhead := lookAhead, edgeMargin := edgeMargin }).accept

def execMarkerSet (r : Req) (marker : Nat) (lookAhead : Int) (edgeMargin : Nat) (s : State) : Answer :=
  s.request r 0x0601#16 (handleMarkerSet marker lookAhead edgeMargin)

/-- A line record, in the order of R130. -/
def Line.put (l : Line) : List Byte :=
  put16 l.id.toNat ++ put24 l.start ++ put16 l.length ++ put8 l.dots ++ put8 (if l.refit then 1 else 0) ++
  put8 l.total ++ put24 l.spanBase ++ put16 l.spanLength ++ put8 l.spanDots ++ put16 l.accumulator.toNat ++
  put16 l.nextIndex ++ put8 l.produced ++ put8 l.issued ++ [l.struckBase] ++
  putList (fun (d : Nat × Int) => put8 d.1 ++ put24 d.2) l.unstruck ++ putFlag l.edgeTaken

/-- A text record (R124); the piece ID is optional. -/
def TextMark.put (x : TextMark) : List Byte :=
  put16 x.segment.toNat ++ putOption put16 (if x.piece = 0 then none else some x.piece) ++ [x.struckBase]

/-- The state fields of a marker, in the order of R124; `ready` as it reads (R128). -/
def Marker.putState (k : Marker) (ready : Bool) : List Byte :=
  putOption (fun b : Byte => [b]) k.struck ++ put8 k.waiting ++ putFlag ready ++ putOption putFlag k.edge ++
  putFlag k.resume ++ putOption Line.put k.line ++ putOption TextMark.put k.text

/-- MARKER.GET (R126). -/
def handleMarkerGet (marker : Nat) (s : State) : State × Reply :=
  match asFin 4 marker with
  | none => s.refuse .notFound
  | some m =>
    let k := s.marker m
    s.accept (put24 k.lookAhead ++ put16 k.edgeMargin ++ putOption put8 (s.stationOf (.marker m)) ++
      putOption (fun t : Fin 6 => put8 t.val) (s.boundTable m) ++ put24 (s.channel (carriageOf m)).position ++
      putFlag (s.markerValid m) ++ k.putState (s.markerReady m))

def execMarkerGet (r : Req) (marker : Nat) (s : State) : Answer := s.request r 0x0602#16 (handleMarkerGet marker)

end Sys2Proof.Machine
end

