-- ==== Sys2Proof/Machine/RunControl.lean ====
section
/-! DEFINITION. The requests of Stations, Polling and Run Control: STATION.SET, STATION.GET (R161 to R163), RUN, STOP (R171,
R172), CYCLE.SET, SCHED.SET, SCHED.GET (R169, R170). -/

namespace Sys2Proof.Machine

/-! ## STATION.SET (R161, R162) -/

/-- What STATION.SET writes, where its values lie in their ranges and agree (R160, R161). -/
def stationValues (v : StationArgs) : Option (StationKind × Side) :=
  match stationKindOf v.kind v.unit, sideOf v.side with
  | some kind, some side =>
    if within 2 15 v.missLimit ∧ (v.manage = true → kind = .source) ∧ (kind.isBound = true → side = .field) then
      some (kind, side)
    else none
  | _, _ => none

/-- Whether another record names the unit of a unit-bound kind (R161). -/
def State.unitNamed (s : State) (station : Nat) (kind : StationKind) : Bool :=
  kind.isBound && (List.range 64).any fun n => decide (n ≠ station) && decide ((s.station n).kind = kind)

/-- Whether a unit is idle, so that its binding may change (R161). -/
def State.unitIdle (s : State) : StationKind → Bool
  | .crane c => decide ((s.crane c).slot = .empty)
  | .table t => decide ((s.table t).state = .idle) || decide ((s.table t).state = .queued)
  | .marker m => (s.marker m).line.isNone && (s.marker m).text.isNone
  | .none | .source => true

/-- A unit takes the change of its station (R162, R17, R66, R123, R124). The load latch keeps its accepted level and its
candidate run, unprimed, until its next sample: DESIGN CHOICE (notes/assumptions/31.md). -/
def State.rebind (s : State) : StationKind → State
  | .crane c =>
    ((s.modChannel (bridgeOf c) Channel.unprime).modChannel (trolleyOf c) Channel.unprime).modCrane c fun k =>
      { k with latchPrimed := false, latchResume := false }
  | .table t => (s.modTable t fun x => { x with lastDone := none, ready := false }).unprimeArc t
  | .marker m => (s.modChannel (carriageOf m) Channel.unprime).modMarker m Marker.unbind
  | .none | .source => s

/-- A record as STATION.SET leaves it (R161). -/
def Station.written (x : Station) (kind : StationKind) (side : Side) (manage mirror : Bool) (missLimit : Nat) : Station :=
  let x' := if kind = x.kind then x else { x with freshness := .never, misses := 0, polled := false, silent := false }
  { x' with kind := kind, side := side, manage := manage, mirror := mirror, missLimit := missLimit }

/-- STATION.SET (R161). -/
def handleStationSet (station : Nat) (v : StationArgs) (s : State) : State × Reply :=
  if 63 < station then s.refuse .notFound
  else if station = 0 then s.refuse .badValue
  else if station = s.ownStation then s.refuse .inUse
  else
    match stationValues v with
    | none => s.refuse .badValue
    | some (kind, side) =>
      let before := (s.station station).kind
      if s.unitNamed station kind then s.refuse .inUse
      else if kind ≠ before ∧ (s.unitIdle before = false ∨ s.unitIdle kind = false) then s.refuse .busy
      else
        let s1 := s.modStation station fun x => x.written kind side v.manage v.mirror v.missLimit
        (if kind = before then s1 else (s1.rebind before).rebind kind).accept

def execStationSet (r : Req) (station : Nat) (values : StationArgs) (s : State) : Answer :=
  s.request r 0x0801#16 (handleStationSet station values)

/-- A record, in the order of R160; poll outstanding and silent reported are flags, 1 for yes (notes/assumptions/42.md). -/
def Station.put (x : Station) : List Byte :=
  x.kind.put ++ put8 x.side.code ++ putFlag x.manage ++ putFlag x.mirror ++ put8 x.missLimit ++
  put8 x.freshness.code ++ put8 x.misses ++ putFlag x.polled ++ putFlag x.silent

/-- STATION.GET (R163). -/
def handleStationGet (station : Nat) (s : State) : State × Reply :=
  if 63 < station then s.refuse .notFound else s.accept (s.station station).put

def execStationGet (r : Req) (station : Nat) (s : State) : Answer := s.request r 0x0802#16 (handleStationGet station)

/-! ## RUN and STOP (R171, R172) -/

/-- Whether RUN passes its three checks (R171). -/
def State.mayRun (s : State) : Bool := decide (s.runState = .halted) && (s.enableF && s.linkF) && s.geometrySet

/-- Entry into RUNNING (R171): the start of the cycle master is a boundary with no cycle to end (R167), and each table
runs head processing for the entry (R73). -/
def State.enterRunning (s : State) (stepFlag : Bool) : State :=
  let s1 := { s with runState := .running, stepFlag := stepFlag, stepConsumed := false, stepDone := false,
                     stopCause := .none, started := true }
  (s1.boundary false).perform (allTables.map .act)

/-- RUN (R171). -/
def handleRun (stepFlag : Bool) (s : State) : State × Reply :=
  if s.mayRun then (s.enterRunning stepFlag).accept else s.refuse .busy

def execRun (r : Req) (stepFlag : Bool) (s : State) : Answer := s.request r 0x0803#16 (handleRun stepFlag)

/-- STOP (R172). -/
def handleStop (s : State) : State × Reply :=
  (if s.runState = .running then s.enterStopping .stop else s).accept

def execStop (r : Req) (s : State) : Answer := s.request r 0x0804#16 handleStop

/-! ## CYCLE.SET, SCHED.SET, SCHED.GET (R169, R170) -/

/-- A trim as taken: within −50 to +50 (R169). -/
def clampTrim (trim : Int) : Int := max (-50) (min 50 trim)

/-- CYCLE.SET (R169). -/
def handleCycleSet (trim : Int) (s : State) : State × Reply :=
  ({ s with trim := clampTrim trim }).accept [BitVec.ofInt 8 (clampTrim trim)]

def execCycleSet (r : Req) (trim : Int) (s : State) : Answer := s.request r 0x0805#16 (handleCycleSet trim)

/-- SCHED.SET (R170). -/
def handleSchedSet (entry : Nat) (list : List Nat) (s : State) : State × Reply :=
  match asFin 32 entry with
  | none => s.refuse .notFound
  | some e =>
    if 6 < list.length ∨ ¬(∀ n ∈ list, within 1 63 n ∧ n ≠ s.ownStation) then s.refuse .badValue
    else if ¬list.Nodup then s.refuse .badValue
    else ({ s with schedule := bankMod s.schedule e fun _ => list }).accept

def execSchedSet (r : Req) (entry : Nat) (list : List Nat) (s : State) : Answer :=
  s.request r 0x0806#16 (handleSchedSet entry list)

/-- SCHED.GET (R170). -/
def handleSchedGet (entry : Nat) (s : State) : State × Reply :=
  match asFin 32 entry with
  | none => s.refuse .notFound
  | some e =>
    s.accept (putList put8 (s.scheduleEntry e) ++ [BitVec.ofInt 8 s.trim, BitVec.ofInt 8 s.cycleTrim] ++ put32 s.cycle ++
      put8 (if s.started then 0 else 1))

def execSchedGet (r : Req) (entry : Nat) (s : State) : Answer := s.request r 0x0807#16 (handleSchedGet entry)

end Sys2Proof.Machine
end

