-- ==== Sys2Proof/Machine/StockRequests.lean ====
section
/-! DEFINITION. The stock requests: PIECE.PUT, GET, LIST, DROP, RESERVE, UNRESERVE, PLACE, AMEND (R147 to R154). -/

namespace Sys2Proof.Machine

/-- The record of an ID, as the reply of an accepted request (R147). -/
def State.recordReply (s : State) (id : Nat) : List Byte := ((s.piece id).map Piece.block).getD []

/-- Accept with the record as it stands after the request (R147). -/
def State.acceptRecord (s : State) (id : Nat) : State × Reply := s.accept (s.recordReply id)

/-- The refusal, if any, of a location to which a piece would come: a zone that does not take it, or a table that is not
IDLE and empty (R147, R148, R153). -/
def State.placeRefusal (s : State) (place : Location) : Option (Result × Reason) :=
  match place with
  | .zone z =>
    if (s.zone z).use.stores = false then some (.badValue, .zoneUnusable)
    else if (s.zone z).capacity ≤ (s.zone z).stored then some (.full, .zoneFull)
    else none
  | .onTable t =>
    if (s.table t).state ≠ .idle ∨ s.tableOccupied t = true then some (.busy, .tableOccupied) else none
  | .onCrane _ | .unverified _ => none

/-- Whether a location is addressable: a zone below the zone count, or a table (R148, R153). -/
def State.addressable (s : State) : Location → Bool
  | .zone z => decide (z < s.zoneCount)
  | .onTable _ => true
  | .onCrane _ | .unverified _ => false

/-! ## PIECE.PUT (R148) -/

/-- Check 1 of PIECE.PUT: every argument in its range, and no parent for a PLATE; the kind and the location where they
are good (R142, R148). A parent ID present with value 0 lies outside R142's range: DESIGN CHOICE, BAD_VALUE
(notes/assumptions/51.md). -/
def State.putArguments (s : State) (v : PutArgs) : Option (PieceKind × Location) :=
  match pieceKindOf v.kind, placeOf v.place with
  | some kind, some place =>
    if within 1 65535 v.id ∧ pieceSizesInRange v.grade v.thickness v.width v.length ∧
        (∀ p ∈ v.parent, within 1 65535 p ∧ kind = .remnant) ∧ (∀ x ∈ v.tag, x ≤ 65535) ∧ s.addressable place = true then
      some (kind, place)
    else none
  | _, _ => none

/-- PIECE.PUT (R148). -/
def handlePiecePut (v : PutArgs) (s : State) : State × Reply :=
  match s.putArguments v with
  | none => s.refuse .badValue
  | some (kind, place) =>
    if (s.piece v.id).isSome then s.refuse .inUse
    else if 256 ≤ s.stock.length then s.refuse .full
    else
      match s.placeRefusal place with
      | some (result, reason) => s.refuse result (some reason)
      | none =>
        (s.createPiece
          { id := v.id, kind := kind, parent := v.parent, grade := v.grade, thickness := v.thickness, width := v.width,
            length := v.length, lifecycle := .available, location := place, tag := v.tag, marked := v.marked,
            partlyCut := v.partlyCut, revision := 0, changed := true }).acceptRecord v.id

def execPiecePut (r : Req) (values : PutArgs) (s : State) : Answer := s.request r 0x0701#16 (handlePiecePut values)

/-! ## PIECE.GET and PIECE.LIST (R149, R150) -/

/-- PIECE.GET (R149). -/
def handlePieceGet (id : Nat) (s : State) : State × Reply :=
  match s.piece id with
  | none => s.refuse .notFound
  | some p => s.accept p.block

def execPieceGet (r : Req) (id : Nat) (s : State) : Answer := s.request r 0x0702#16 (handlePieceGet id)

/-- The records that a PIECE.LIST may return, in ascending order of ID (R150). -/
def State.listed (s : State) (start : Nat) (changedOnly : Bool) : List Piece :=
  s.stock.filter fun p => decide (start ≤ p.id) && (!changedOnly || p.changed)

/-- The next ID of a PIECE.LIST: one above the last record returned, or none where no record at or above it qualifies
(R150). -/
def State.nextId (s : State) (returned : List Piece) (changedOnly : Bool) : Option Nat :=
  match returned.getLast? with
  | none => none
  | some p => if (s.listed (p.id + 1) changedOnly).isEmpty then none else some (p.id + 1)

/-- The changed flags of the returned records cleared (R150). -/
def State.clearChanged (s : State) (returned : List Piece) : State :=
  { s with stock := s.stock.map fun p => if returned.any fun q => q.id = p.id then { p with changed := false } else p }

/-- PIECE.LIST (R150). -/
def handlePieceList (start count : Nat) (changedOnly : Bool) (s : State) : State × Reply :=
  if start = 0 ∨ 65535 < start ∨ count < 1 ∨ 16 < count then s.refuse .badValue
  else
    let returned := (s.listed start changedOnly).take count
    (if changedOnly then s.clearChanged returned else s).accept
      (putList Piece.block returned ++ putOption put16 (s.nextId returned changedOnly) ++ put16 s.stock.length ++
        put16 s.stockCounter.toNat)

def execPieceList (r : Req) (start count : Nat) (changedOnly : Bool) (s : State) : Answer :=
  s.request r 0x0703#16 (handlePieceList start count changedOnly)

/-! ## PIECE.DROP, RESERVE, UNRESERVE (R151, R152) -/

/-- Whether a piece is located ON_CRANE. -/
def Piece.onCrane (p : Piece) : Bool :=
  match p.location with
  | .onCrane _ => true
  | .zone _ | .onTable _ | .unverified _ => false

/-- PIECE.DROP (R151). -/
def handlePieceDrop (id : Nat) (s : State) : State × Reply :=
  match s.piece id with
  | none => s.refuse .notFound
  | some p =>
    if p.onCrane then s.refuse .busy
    else if p.lifecycle = .inCut then s.refuse .busy (some .pieceInCut)
    else (s.removePiece id .dropped 0).accept

def execPieceDrop (r : Req) (id : Nat) (s : State) : Answer := s.request r 0x0704#16 (handlePieceDrop id)

/-- PIECE.RESERVE (R152). -/
def handlePieceReserve (id tag : Nat) (s : State) : State × Reply :=
  if 65535 < tag then s.refuse .badValue
  else
    match s.piece id with
    | none => s.refuse .notFound
    | some p =>
      if p.lifecycle = .inCut then s.refuse .busy (some .pieceInCut)
      else
        match p.tag with
        | none => (s.changePiece id .reserved fun p => { p with tag := some tag }).acceptRecord id
        | some held => if held = tag then s.acceptRecord id else s.refuse .inUse

def execPieceReserve (r : Req) (id tag : Nat) (s : State) : Answer := s.request r 0x0705#16 (handlePieceReserve id tag)

/-- PIECE.UNRESERVE (R152). -/
def handlePieceUnreserve (id : Nat) (s : State) : State × Reply :=
  match s.piece id with
  | none => s.refuse .notFound
  | some p =>
    if p.lifecycle = .inCut then s.refuse .busy (some .pieceInCut)
    else if p.tag.isNone then s.acceptRecord id
    else (s.changePiece id .unreserved fun p => { p with tag := none }).acceptRecord id

def execPieceUnreserve (r : Req) (id : Nat) (s : State) : Answer := s.request r 0x0706#16 (handlePieceUnreserve id)

/-! ## PIECE.PLACE and PIECE.AMEND (R153, R154) -/

/-- PIECE.PLACE (R153). -/
def handlePiecePlace (id : Nat) (place : PlaceArg) (s : State) : State × Reply :=
  match s.piece id with
  | none => s.refuse .notFound
  | some p =>
    if p.onCrane then s.refuse .busy
    else if p.lifecycle = .inCut then s.refuse .busy (some .pieceInCut)
    else
      match placeOf place with
      | none => s.refuse .badValue
      | some target =>
        if p.location = target then s.acceptRecord id
        else if s.addressable target = false then s.refuse .badValue
        else
          match s.placeRefusal target with
          | some (result, reason) => s.refuse result (some reason)
          | none => (s.changePiece id .placed fun p => { p with location := target }).acceptRecord id

def execPiecePlace (r : Req) (id : Nat) (place : PlaceArg) (s : State) : Answer :=
  s.request r 0x0707#16 (handlePiecePlace id place)

/-- A record with the six fields of PIECE.AMEND written (R154). -/
def Piece.amended (p : Piece) (v : AmendArgs) : Piece :=
  { p with grade := v.grade, thickness := v.thickness, width := v.width, length := v.length, marked := v.marked,
           partlyCut := v.partlyCut }

/-- PIECE.AMEND (R154). -/
def handlePieceAmend (id : Nat) (v : AmendArgs) (s : State) : State × Reply :=
  match s.piece id with
  | none => s.refuse .notFound
  | some p =>
    if p.lifecycle = .inCut then s.refuse .busy (some .pieceInCut)
    else if ¬pieceSizesInRange v.grade v.thickness v.width v.length then s.refuse .badValue
    else if p.amended v = p then s.acceptRecord id
    else (s.changePiece id .amended fun p => p.amended v).acceptRecord id

def execPieceAmend (r : Req) (id : Nat) (values : AmendArgs) (s : State) : Answer :=
  s.request r 0x0708#16 (handlePieceAmend id values)

end Sys2Proof.Machine
end

