-- ==== Sys2Proof/Machine/TableRequests.lean ====
section
/-! DEFINITION. The requests of Cutting Tables, of Arc Monitoring and of the Hold List: TABLE.SET, TABLE.GET, TABLE.QUEUE,
TABLE.SKIP, TABLE.FLUSH, TABLE.RESUME (R67, R68, R87 to R89), TABLE.WEAR_RESET, ARC.GET (R121, R122), HOLD.GET (R108). -/

namespace Sys2Proof.Machine

/-! ## TABLE.SET (R67) -/

/-- Whether a marker is named by another table (R67). -/
def State.markerTaken (s : State) (t : Fin 6) (marker : Option (Fin 4)) : Bool :=
  marker.isSome && allTables.any fun u => decide (u ≠ t) && decide ((s.table u).config.marker = marker)

/-- The arc monitor after a TABLE.SET: a change of the filter depth clears the candidate run (R111), a different wear
limit clears its reported flag (R120). -/
def Arc.reconfigured (a : Arc) (before after : TableConfig) : Arc :=
  { a with
    arc := if after.arcDepth = before.arcDepth then a.arc else { a.arc with run := 0 },
    piercesReported := a.piercesReported && decide (after.pierceLimit = before.pierceLimit),
    arcReported := a.arcReported && decide (after.arcLimit = before.arcLimit) }

/-- TABLE.SET (R67); head processing runs at the end, as for each TABLE request a table takes (R73). -/
def handleTableSet (table : Nat) (values : TableArgs) (s : State) : State × Reply :=
  match asFin 6 table with
  | none => s.refuse .notFound
  | some t =>
    let x := s.table t
    if x.state ≠ .idle ∧ x.state ≠ .queued then s.refuse .busy
    else
      match tableConfigOf values with
      | none => s.refuse .badValue
      | some config =>
        if s.markerTaken t config.marker then s.refuse .inUse
        else
          let s1 := (s.modTable t fun x => { x with config := config }).modArc t fun a => a.reconfigured x.config config
          (s1.perform [.act t]).accept

def execTableSet (r : Req) (table : Nat) (values : TableArgs) (s : State) : Answer :=
  s.request r 0x0401#16 (handleTableSet table values)

/-! ## TABLE.GET and TABLE.QUEUE (R68) -/

/-- The twelve values of R64 in order; the two policies by their codes, in the order R64 lists them: ALLOW 0, NEVER 1;
mark before lift yes 0, no 1 (R191; notes/assumptions/42.md). -/
def TableConfig.put (v : TableConfig) : List Byte :=
  putOption (fun m : Fin 4 => put8 m.val) v.marker ++ put8 v.window ++ put8 v.lowWater ++ put16 v.stallLimit ++
  put16 v.linger ++ put16 v.ignite ++ put8 v.arcDepth ++ put8 (if v.yieldAllowed then 0 else 1) ++
  put8 (if v.markFirst then 0 else 1) ++ put16 v.minSide ++ putNat32 v.pierceLimit ++ putNat32 v.arcLimit

/-- An in-flight record (R65). Its piece ID goes in 2 bytes with no presence flag, 0 for none: DEDUCED, R70 calls the ID
optional and R65 lists it without a none (notes/assumptions/42.md). -/
def Flight.put (f : Flight) : List Byte :=
  [f.kind.code] ++ put16 f.segment.toNat ++ put16 f.piece ++ put16 f.arcLimit ++ put32 f.release

/-- A set of cranes, as a list in ascending order: DEDUCED, R191 gives a set of cranes no layout
(notes/assumptions/42.md). -/
def putCranes (set : List (Fin 4)) : List Byte := putList (fun c : Fin 4 => put8 c.val) set

/-- Every field of R65 but the queue entries, in order; `ready` is controller ready as it reads (R79). Permit held and
controller ready are flags, 1 for yes (notes/assumptions/42.md). -/
def Table.putState (x : Table) (ready : Bool) : List Byte :=
  put8 x.state.code ++ putFlag x.permit ++ [x.released, x.done] ++ put8 x.inFlight ++ putList Flight.put x.flights ++
  put8 (match x.target with | .controller => 0 | .marker => 1) ++ putOption (fun d : Byte => [d]) x.lastDone ++
  putFlag ready ++ putOption put16 x.plate ++ putOption (fun n : Half => put16 n.toNat) x.expected ++
  putFlag x.markSummary ++ putFlag x.overrun ++
  putOption (fun (p : Byte × Port) => [p.1] ++ put8 (match p.2 with | .u => 0 | .f => 1)) x.lastSource ++
  put16 x.stall ++ putFlag x.stallSent ++ put16 x.linger ++ putCranes x.yielders

/-- TABLE.GET (R68). -/
def handleTableGet (table : Nat) (s : State) : State × Reply :=
  match asFin 6 table with
  | none => s.refuse .notFound
  | some t =>
    let x := s.table t
    s.accept (x.config.put ++ putOption put8 (s.stationOf (.table t)) ++ x.putState (s.controllerReady t) ++
      put8 x.queue.length ++ putOption (fun e : Entry => [e.kind.code] ++ put16 e.segment.toNat) x.queue.head?)

def execTableGet (r : Req) (table : Nat) (s : State) : Answer := s.request r 0x0402#16 (handleTableGet table)

/-- An entry summary (R68); the piece ID is optional (R70). -/
def Entry.putSummary (e : Entry) (index : Nat) : List Byte :=
  put8 index ++ [e.kind.code] ++ put16 e.segment.toNat ++
  putOption put16 (if e.piece = 0 then none else some e.piece) ++ put16 e.tag ++ [marksByte e.marks]

/-- TABLE.QUEUE (R68). -/
def handleTableQueue (table start : Nat) (s : State) : State × Reply :=
  match asFin 6 table with
  | none => s.refuse .notFound
  | some t =>
    if 23 < start then s.refuse .badValue
    else
      let queue := (s.table t).queue
      let summaries := (queue.zipIdx.drop start).take 8
      s.accept (put8 queue.length ++ putList (fun (e : Entry × Nat) => e.1.putSummary e.2) summaries)

def execTableQueue (r : Req) (table start : Nat) (s : State) : Answer :=
  s.request r 0x0403#16 (handleTableQueue table start)

/-! ## TABLE.SKIP, TABLE.FLUSH, TABLE.RESUME (R87 to R89) -/

/-- A table leaving HEAD_ERROR by TABLE.SKIP (R87, R106). -/
def Table.skipped (x : Table) : Table :=
  if x.permit then { x.restartStall with state := if x.yielders.isEmpty then .active else .yielding }
  else x.settleQueue

/-- TABLE.SKIP (R87). -/
def handleTableSkip (table : Nat) (s : State) : State × Reply :=
  match asFin 6 table with
  | none => s.refuse .notFound
  | some t =>
    if (s.table t).state ≠ .headError then s.refuse .busy
    else
      let s1 := (s.removeHead t).modTable t Table.skipped
      (s1.perform (s1.entered t)).accept

def execTableSkip (r : Req) (table : Nat) (s : State) : Answer := s.request r 0x0404#16 (handleTableSkip table)

/-- A permit still held is released to the owner, which evaluates the Hold List (R88, R89, R94). -/
def State.releasePermit (s : State) (t : Fin 6) : State :=
  if (s.table t).permit then (s.dropPermit t).perform [.eval] else s

/-- The table's own fields after TABLE.FLUSH (R88). -/
def Table.flushed (x : Table) : Table :=
  { x with queue := [], markSummary := false, overrun := false, expected := none, plate := none, state := .idle }

/-- TABLE.FLUSH (R88). -/
def handleTableFlush (table : Nat) (s : State) : State × Reply :=
  match asFin 6 table with
  | none => s.refuse .notFound
  | some t =>
    let x := s.table t
    if x.state = .active ∨ x.state = .yielding then s.refuse .busy
    else if x.inFlight ≠ 0 ∨ (s.arc t).arc.level = true then s.refuse .busy
    else
      let s1 := (s.leaveHold (.table t)).releasePermit t
      ((s1.returnPlate (s1.table t).plate).modTable t Table.flushed).accept

def execTableFlush (r : Req) (table : Nat) (s : State) : Answer := s.request r 0x0405#16 (handleTableFlush table)

/-- TABLE.RESUME (R89). -/
def handleTableResume (table : Nat) (s : State) : State × Reply :=
  match asFin 6 table with
  | none => s.refuse .notFound
  | some t =>
    if (s.table t).state ≠ .fault then s.refuse .busy
    else if (s.arc t).arc.level = true ∧ s.isFresh (.table t) = true then s.refuse .busy
    else
      let s1 := ((s.releasePermit t).emptyFlights t).modTable t Table.settleQueue
      (s1.perform [.act t]).accept

def execTableResume (r : Req) (table : Nat) (s : State) : Answer := s.request r 0x0406#16 (handleTableResume table)

/-! ## TABLE.WEAR_RESET and ARC.GET (R121, R122) -/

/-- TABLE.WEAR_RESET (R121). -/
def handleTableWearReset (table : Nat) (s : State) : State × Reply :=
  match asFin 6 table with
  | none => s.refuse .notFound
  | some t =>
    let a := s.arc t
    (s.modArc t fun a =>
      { a with wearPierces := 0, wearArc := 0, piercesReported := false, arcReported := false }).accept
      (putNat32 a.wearPierces ++ putNat32 a.wearArc)

def execTableWearReset (r : Req) (table : Nat) (s : State) : Answer :=
  s.request r 0x0407#16 (handleTableWearReset table)

/-- The arc time charged to the oldest record: the cycles since the overrun base while the arc is ON and a record, of any
kind, is oldest (R110, R115); unstated otherwise, and then a free value (notes/assumptions/2.md). -/
def State.chargedTime (s : State) (t : Fin 6) : CycleNo :=
  let a := s.arc t
  if a.arc.level = true ∧ (s.table t).flights ≠ [] then s.cycle - a.base
  else Config.unchargedArcTime a.base s.cycle

/-- ARC.GET (R122). -/
def handleArcGet (table : Nat) (s : State) : State × Reply :=
  match asFin 6 table with
  | none => s.refuse .notFound
  | some t =>
    let a := s.arc t
    let config := (s.table t).config
    let state : Nat := if a.arc.level then 0 else 1
    s.accept (putFlag a.primed ++ put8 state ++ put8 a.arc.run ++ put8 state ++ put32 (s.cycle - a.lastEdge) ++
      put32 a.lastOn ++ put32 a.lastOff ++ put32 a.base ++ put32 (s.chargedTime t) ++
      putOption (fun (w : Half × CycleNo) => put16 w.1.toNat) a.watch ++ put8 (if a.episode then 0 else 1) ++
      put16 a.platePierces ++ putNat32 a.wearPierces ++ putNat32 a.wearArc ++ putNat32 config.pierceLimit ++
      putNat32 config.arcLimit ++ putFlag a.piercesReported ++ putFlag a.arcReported)

def execArcGet (r : Req) (table : Nat) (s : State) : Answer := s.request r 0x0408#16 (handleArcGet table)

/-! ## HOLD.GET (R108) -/

/-- An entry of the Hold List as HOLD.GET returns it (R108). -/
def State.putHold (s : State) (e : HoldEntry) : List Byte :=
  match e.unit with
  | .crane c =>
    put8 (unitCrane c) ++ put32 e.entry ++ (match (s.crane c).slot with
      | .held op _ | .inFlight op => put8 op.operation.code ++ [op.source] ++ put16 op.seq.toNat
      | .empty => [])
  | .table t => put8 (unitTable t) ++ put32 e.entry ++ putCranes (s.table t).yielders

/-- HOLD.GET (R108). -/
def handleHoldGet (s : State) : State × Reply := s.accept (putList s.putHold s.hold)

def execHoldGet (r : Req) (s : State) : Answer := s.request r 0x0501#16 handleHoldGet

end Sys2Proof.Machine
end

