-- ==== Sys2Proof/Machine/Wire.lean ====
section
/-! DEFINITION. Management requests as their frames carry them: the argument layouts of R191 read into the handling of each
request, and BAD_REQUEST (R191 to R193). -/

namespace Sys2Proof.Machine

/-- The handling of a request, with nothing said of its sender. -/
abbrev Handling := State → State × Reply

/-! ## Arguments (R191) -/

/-- A number, or ALL as 0xFF (R191). -/
def getSel (bytes : List Byte) : Option (Sel × List Byte) :=
  (get8 bytes).map fun (n, rest) => (if n = 255 then .all else .one n, rest)

/-- A choice of location: a presence flag, then a kind byte and a number byte; a clear flag names no location (R191). -/
def getPlace (bytes : List Byte) : Option (PlaceArg × List Byte) := do
  let (flag, b1) ← getFlag bytes
  if flag then
    let (kind, b2) ← get8 b1
    let (number, rest) ← get8 b2
    some (⟨kind, number⟩, rest)
  else some (⟨0, 0⟩, b1)

/-- An enumeration whose value of the given code carries a number (R191). -/
def getNumbered (carries : Nat → Bool) (bytes : List Byte) : Option ((Nat × Nat) × List Byte) := do
  let (code, b1) ← get8 bytes
  if carries code then
    let (number, rest) ← get8 b1
    some ((code, number), rest)
  else some ((code, 0), b1)

/-- The arguments of GEOMETRY.SET. -/
def readGeometrySet (bytes : List Byte) : Option Handling := do
  let (ob, b1) ← get24 bytes
  let (wb, b2) ← get16 b1
  let (zb, b3) ← get8 b2
  let (ot, b4) ← get24 b3
  let (wt, b5) ← get16 b4
  let (zt, _) ← get8 b5
  some (handleGeometrySet ob wb zb ot wt zt)

/-- The arguments of ZONE.SET; TABLE(t) is followed by its number. -/
def readZoneSet (bytes : List Byte) : Option Handling := do
  let (zone, b1) ← get8 bytes
  let ((use, table), b2) ← getNumbered (fun c => c == 4) b1
  let (capacity, _) ← get8 b2
  some (handleZoneSet zone use table capacity)

/-- The arguments of AXIS.SET. -/
def readAxisSet (bytes : List Byte) : Option Handling := do
  let (channel, b1) ← get8 bytes
  let (mode, b2) ← get8 b1
  let (depth, b3) ← get8 b2
  let (reference, b4) ← get24 b3
  let (tolerance, b5) ← get16 b4
  let (pitch, _) ← get16 b5
  some (handleAxisSet channel mode depth reference tolerance pitch)

/-- The arguments of AXIS.PRESET. -/
def readAxisPreset (bytes : List Byte) : Option Handling := do
  let (channel, b1) ← get8 bytes
  let (position, _) ← get24 b1
  some (handleAxisPreset channel position)

/-- The arguments of CRANE.SET. -/
def readCraneSet (bytes : List Byte) : Option Handling := do
  let (crane, b1) ← get8 bytes
  let (bridgeMargin, b2) ← get16 b1
  let (trolleyMargin, b3) ← get16 b2
  let (settle, b4) ← get8 b3
  let (bridgeTolerance, b5) ← get16 b4
  let (trolleyTolerance, b6) ← get16 b5
  let (startLimit, b7) ← get16 b6
  let (opLimit, b8) ← get16 b7
  let (holdLimit, _) ← get16 b8
  some (handleCraneSet crane
    ⟨bridgeMargin, trolleyMargin, settle, bridgeTolerance, trolleyTolerance, startLimit, opLimit, holdLimit⟩)

/-- The arguments of TABLE.SET. -/
def readTableSet (bytes : List Byte) : Option Handling := do
  let (table, b1) ← get8 bytes
  let (marker, b2) ← getOption get8 b1
  let (window, b3) ← get8 b2
  let (lowWater, b4) ← get8 b3
  let (stallLimit, b5) ← get16 b4
  let (linger, b6) ← get16 b5
  let (ignite, b7) ← get16 b6
  let (arcDepth, b8) ← get8 b7
  let (yieldPolicy, b9) ← get8 b8
  let (markPolicy, b10) ← get8 b9
  let (minSide, b11) ← get16 b10
  let (pierceLimit, b12) ← get32 b11
  let (arcLimit, _) ← get32 b12
  some (handleTableSet table
    ⟨marker, window, lowWater, stallLimit, linger, ignite, arcDepth, yieldPolicy, markPolicy, minSide, pierceLimit,
     arcLimit⟩)

/-- The arguments of TABLE.QUEUE. -/
def readTableQueue (bytes : List Byte) : Option Handling := do
  let (table, b1) ← get8 bytes
  let (start, _) ← get8 b1
  some (handleTableQueue table start)

/-- The arguments of MARKER.SET. -/
def readMarkerSet (bytes : List Byte) : Option Handling := do
  let (marker, b1) ← get8 bytes
  let (lookAhead, b2) ← get24 b1
  let (edgeMargin, _) ← get16 b2
  some (handleMarkerSet marker lookAhead edgeMargin)

/-- The arguments of PIECE.PUT. -/
def readPiecePut (bytes : List Byte) : Option Handling := do
  let (id, b1) ← get16 bytes
  let (kind, b2) ← get8 b1
  let (parent, b3) ← getOption get16 b2
  let (grade, b4) ← get8 b3
  let (thickness, b5) ← get16 b4
  let (width, b6) ← get16 b5
  let (length, b7) ← get16 b6
  let (place, b8) ← getPlace b7
  let (tag, b9) ← getOption get16 b8
  let (marked, b10) ← getFlag b9
  let (partlyCut, _) ← getFlag b10
  some (handlePiecePut ⟨id, kind, parent, grade, thickness, width, length, place, tag, marked, partlyCut⟩)

/-- The arguments of PIECE.LIST. -/
def readPieceList (bytes : List Byte) : Option Handling := do
  let (start, b1) ← get16 bytes
  let (count, b2) ← get8 b1
  let (changedOnly, _) ← getFlag b2
  some (handlePieceList start count changedOnly)

/-- The arguments of PIECE.RESERVE. -/
def readPieceReserve (bytes : List Byte) : Option Handling := do
  let (id, b1) ← get16 bytes
  let (tag, _) ← get16 b1
  some (handlePieceReserve id tag)

/-- The arguments of PIECE.PLACE. -/
def readPiecePlace (bytes : List Byte) : Option Handling := do
  let (id, b1) ← get16 bytes
  let (place, _) ← getPlace b1
  some (handlePiecePlace id place)

/-- The arguments of PIECE.AMEND. -/
def readPieceAmend (bytes : List Byte) : Option Handling := do
  let (id, b1) ← get16 bytes
  let (grade, b2) ← get8 b1
  let (thickness, b3) ← get16 b2
  let (width, b4) ← get16 b3
  let (length, b5) ← get16 b4
  let (marked, b6) ← getFlag b5
  let (partlyCut, _) ← getFlag b6
  some (handlePieceAmend id ⟨grade, thickness, width, length, marked, partlyCut⟩)

/-- The arguments of STATION.SET; a unit-bound kind is followed by its unit number. -/
def readStationSet (bytes : List Byte) : Option Handling := do
  let (station, b1) ← get8 bytes
  let ((kind, unit), b2) ← getNumbered (fun c => c == 1 || c == 2 || c == 3) b1
  let (side, b3) ← get8 b2
  let (manage, b4) ← getFlag b3
  let (mirror, b5) ← getFlag b4
  let (missLimit, _) ← get8 b5
  some (handleStationSet station ⟨kind, unit, side, manage, mirror, missLimit⟩)

/-- The arguments of SCHED.SET. -/
def readSchedSet (bytes : List Byte) : Option Handling := do
  let (entry, b1) ← get8 bytes
  let (count, b2) ← get8 b1
  let (list, _) ← getMany get8 count b2
  some (handleSchedSet entry list)

/-- The arguments of DEVICE.SET. -/
def readDeviceSet (bytes : List Byte) : Option Handling := do
  let (own, b1) ← get8 bytes
  let (report, b2) ← getOption get8 b1
  let (policy, _) ← get8 b2
  some (handleDeviceSet own report policy)

/-- A request of one 1-byte argument. -/
def readByte (handle : Nat → Handling) (bytes : List Byte) : Option Handling := (get8 bytes).map fun (n, _) => handle n

/-- A request of one 2-byte argument. -/
def readHalf (handle : Nat → Handling) (bytes : List Byte) : Option Handling := (get16 bytes).map fun (n, _) => handle n

/-- A request of a number or ALL. -/
def readSel (handle : Sel → Handling) (bytes : List Byte) : Option Handling := (getSel bytes).map fun (n, _) => handle n

/-- A request of one flag. -/
def readFlag (handle : Bool → Handling) (bytes : List Byte) : Option Handling :=
  (getFlag bytes).map fun (b, _) => handle b

/-- A request of one set of classes. -/
def readClasses (handle : Byte → Handling) (bytes : List Byte) : Option Handling :=
  match bytes with
  | [] => none
  | b :: _ => some (handle b)

/-! ## The request codes (R191) -/

/-- The handling of a request of chapters 1 to 7, from its code and arguments. -/
def readUnits (code : Nat) (bytes : List Byte) : Option Handling :=
  match code with
  | 0x0101 => readGeometrySet bytes
  | 0x0102 => some handleGeometryGet
  | 0x0103 => readZoneSet bytes
  | 0x0104 => readByte handleZoneGet bytes
  | 0x0105 => readSel handleZoneAck bytes
  | 0x0201 => readAxisSet bytes
  | 0x0202 => readByte handleAxisGet bytes
  | 0x0203 => readAxisPreset bytes
  | 0x0301 => readCraneSet bytes
  | 0x0302 => readByte handleCraneGet bytes
  | 0x0303 => readByte handleUnitAbandon bytes
  | 0x0401 => readTableSet bytes
  | 0x0402 => readByte handleTableGet bytes
  | 0x0403 => readTableQueue bytes
  | 0x0404 => readByte handleTableSkip bytes
  | 0x0405 => readByte handleTableFlush bytes
  | 0x0406 => readByte handleTableResume bytes
  | 0x0407 => readByte handleTableWearReset bytes
  | 0x0408 => readByte handleArcGet bytes
  | 0x0501 => some handleHoldGet
  | 0x0601 => readMarkerSet bytes
  | 0x0602 => readByte handleMarkerGet bytes
  | _ => none

/-- The handling of a request of chapters 8 to 11, from its code and arguments; RESET stands apart. -/
def readHall (code : Nat) (bytes : List Byte) : Option Handling :=
  match code with
  | 0x0701 => readPiecePut bytes
  | 0x0702 => readHalf handlePieceGet bytes
  | 0x0703 => readPieceList bytes
  | 0x0704 => readHalf handlePieceDrop bytes
  | 0x0705 => readPieceReserve bytes
  | 0x0706 => readHalf handlePieceUnreserve bytes
  | 0x0707 => readPiecePlace bytes
  | 0x0708 => readPieceAmend bytes
  | 0x0801 => readStationSet bytes
  | 0x0802 => readByte handleStationGet bytes
  | 0x0803 => readFlag handleRun bytes
  | 0x0804 => some handleStop
  | 0x0805 => (getInt8 bytes).map fun (trim, _) => handleCycleSet trim
  | 0x0806 => readSchedSet bytes
  | 0x0807 => readByte handleSchedGet bytes
  | 0x0901 => readByte handlePortEnable bytes
  | 0x0902 => readByte handlePortDisable bytes
  | 0x0903 => readSel handlePortAck bytes
  | 0x0904 => some handlePortGet
  | 0x0A01 => readDeviceSet bytes
  | 0x0A02 => some handleDeviceGet
  | 0x0A03 => some handleStatusGet
  | 0x0A04 => readClasses handleNoticeMask bytes
  | 0x0A05 => readClasses handleNoticeAck bytes
  | 0x0A06 => some handleNoticeGet
  | _ => none

/-- The handling of a request other than RESET; none where the code is unknown or the payload too short (R191, R193). -/
def readRequest (code : Nat) (bytes : List Byte) : Option Handling :=
  match readUnits code bytes with
  | some h => some h
  | none => readHall code bytes

/-- Whether a payload is one to which management answers BAD_REQUEST: its code unknown, or too short for its code or for
the arguments (R193). -/
def badRequestPayload (payload : List Byte) : Bool :=
  match get16 payload with
  | none => true
  | some (code, bytes) => if code = 0x0A07 then bytes.isEmpty else (readRequest code bytes).isNone

/-- The request code that a reply carries: the code as it arrived, or, where the payload is too short to hold one, 0 in a
DENIED reply (R192) and a free value in another (notes/assumptions/2.md). -/
def replyCode (denied : Bool) (payload : List Byte) : Half :=
  match get16 payload with
  | some (code, _) => BitVec.ofNat 16 code
  | none => if denied then 0 else Config.shortRequestCode payload

/-- A reply of BAD_REQUEST (R193). -/
def State.replyBad (s : State) (r : Req) (payload : List Byte) : State :=
  s.reply r (replyCode false payload) { result := .badRequest }

/-- An MGMT_REQ that has reached management, by its payload (R192, R193). -/
def State.takeRequest (s : State) (r : Req) (payload : List Byte) : Taken :=
  if s.mayManage r then
    match get16 payload with
    | none => .event (s.replyBad r payload)
    | some (code, bytes) =>
      if code = 0x0A07 then
        match get8 bytes with
        | none => .event (s.replyBad r payload)
        | some (scope, _) => takeReset r scope s
      else
        match readRequest code bytes with
        | none => .event (s.replyBad r payload)
        | some handle => State.answered r (BitVec.ofNat 16 code) handle s
  else .event (s.reply r (replyCode true payload) { result := .denied })

/-- BAD_REQUEST: an MGMT_REQ by its payload, which is answered BAD_REQUEST or DENIED where it is as the command's name
says (R192, R193), and as the request it spells otherwise (notes/assumptions/10.md). -/
def execBadRequest (r : Req) (payload : List Byte) (s : State) : Answer :=
  s.take fun s => if s.portTakes r.port && s.sourceGood r.src then s.takeRequest r payload else .event s

end Sys2Proof.Machine
end

