-- ==== Sys2Proof/Machine/Arrival.lean ====
section
/-! DEFINITION. Frames as they arrive: the port (R180), the header (R181), the classifier (R182), forwarding (R183), and the
commands that frames are. Every frame command runs the whole arrival path on the frame it stands for
(notes/assumptions/10.md). -/

namespace Sys2Proof.Machine

/-! ## Forwarding (R180, R182, R183) -/

/-- The other port. -/
def otherPort : Port → Port
  | .u => .f
  | .f => .u

/-- The port by which a hall frame for a destination leaves, or none (R183). -/
def State.forwardPort (s : State) (dst : Nat) (arrival : Port) : Option Port :=
  let x := s.station dst
  let port : Option Port :=
    if x.kind ≠ .none then some (match x.side with | .field => .f | .upstream => .u)
    else match s.policy with
      | .forward => some (otherPort arrival)
      | .drop => none
  if port = some arrival then none else port

/-- Forward a hall frame, every field and both Ethernet addresses unchanged (R183). -/
def State.forward (s : State) (f : Frame) (arrival : Port) : State :=
  match s.forwardPort f.dst.toNat arrival with
  | none => s
  | some p => s.transmit p (.hall f)

/-- Foreign traffic: sent out the other port unchanged while Port F is ENABLED and both links are UP (R180). -/
def State.passForeign (s : State) (arrival : Port) (x : Sent) : State :=
  if s.enableF && s.linkU && s.linkF then s.transmit (otherPort arrival) x else s

/-! ## The classifier (R182) -/

/-- The kinds that only the controller sends (R182). -/
def isOwnKind (kind : Byte) : Bool := kind == kindCycle || kind == kindPoll || kind == kindStrike

/-- The gated crane commands (R182). -/
def isCraneCommand (kind : Byte) : Bool := kind == kindMove || kind == kindLift || kind == kindLower

/-- What the classifier makes of a hall frame, by the first row of R182 that applies. -/
inductive Route where
  | dropped
  | sample
  | request
  | forwarded
  | broadcast
  | craneCommand (c : Fin 4)
  | seg (t : Fin 6)
  | arrestCrane (c : Fin 4)
  | arrestTable (t : Fin 6)
  | arrestMarker (m : Fin 4)
  deriving DecidableEq, Repr

/-- Classify a hall frame that has passed the header checks (R182). An ARREST for a marker head's station falls to R182's
last row, yet R183's last words send the ARREST of every unit-bound station on Port F; an ARREST of another version for a
unit-bound station keeps to R182's version row, and so to R183's table: both DESIGN CHOICE (notes/assumptions/50.md). -/
def State.route (s : State) (f : Frame) : Route :=
  if isOwnKind f.kind then .dropped
  else if f.dst.toNat = s.ownStation then
    if f.version ≠ 1#8 then .dropped
    else if f.kind = kindSample then .sample
    else if f.kind = kindRequest then .request
    else .dropped
  else if f.version ≠ 1#8 then .forwarded
  else if f.dst = 0#8 then .broadcast
  else
    match (s.station f.dst.toNat).kind with
    | .crane c =>
      if isCraneCommand f.kind then .craneCommand c
      else if f.kind = kindSeg then .dropped
      else if f.kind = kindArrest then .arrestCrane c
      else .forwarded
    | .table t =>
      if f.kind = kindSeg then .seg t
      else if isCraneCommand f.kind then .dropped
      else if f.kind = kindArrest then .arrestTable t
      else .forwarded
    | .marker m =>
      if isCraneCommand f.kind || f.kind == kindSeg then .dropped
      else if f.kind = kindArrest then .arrestMarker m
      else .forwarded
    | .none | .source =>
      if isCraneCommand f.kind || f.kind == kindSeg then .dropped else .forwarded

/-! ## Arrival (R180, R181) -/

/-- The header check of a hall frame whose lengths hold (R181). -/
def State.headerGood (s : State) (f : Frame) : Bool := decide (f.dst.toNat ≤ 63) && s.sourceGood f.src

/-- The handling of a state with the acts it sets off, as an event. -/
def State.done (x : State × List Work) : Taken := .event (x.1.perform x.2)

/-- An ARREST for a crane's station: sent on Port F, and taken by the crane's unit (R60). -/
def State.arrestCrane (s : State) (c : Fin 4) (f : Frame) : State × List Work := (s.transmit .f (.hall f)).cancelHeld c

/-- A hall frame given to the block that owns it (R182). -/
def State.deliver (s : State) (f : Frame) (arrival : Port) : Taken :=
  match s.route f with
  | .dropped => .event s
  | .sample => State.done (s.samplePath f)
  | .request => s.takeRequest ⟨arrival, f.src, f.seq⟩ f.payload
  | .forwarded => .event (s.forward f arrival)
  | .broadcast => .event (s.transmit (otherPort arrival) (.hall f))
  | .craneCommand c => State.done (s.admission c f arrival)
  | .seg t => State.done (s.takeSeg t f arrival)
  | .arrestCrane c => State.done (s.arrestCrane c f)
  | .arrestTable _ | .arrestMarker _ => .event (s.transmit .f (.hall f))

/-- A hall frame of good lengths arrives at a port (R180 to R182). -/
def State.arrive (f : Frame) (arrival : Port) (s : State) : Taken :=
  if s.portTakes arrival && s.headerGood f then s.deliver f arrival else .event s

/-- The hall frame in the Ethernet payload of a raw frame; none where the lengths are bad (R181). Bytes beyond the stated
payload length are padding. -/
def hallFrame (raw : RawFrame) : Option Frame :=
  match raw.bytes with
  | version :: kind :: dst :: src :: q1 :: q0 :: n1 :: n0 :: rest =>
    let n := (n1 ++ n0 : BitVec 16).toNat
    if n ≤ rest.length then
      some { ethDst := raw.ethDst, ethSrc := raw.ethSrc, version := version, kind := kind, dst := dst, src := src,
             seq := q1 ++ q0, payload := rest.take n }
    else none
  | _ => none

/-- A frame arrives at a port (R180). -/
def State.arriveRaw (raw : RawFrame) (s : State) : Taken :=
  if !raw.fcsGood || !s.portTakes raw.port then .event s
  else if raw.etherType ≠ Config.hallEtherType then
    .event (s.passForeign raw.port (.foreign raw.etherType raw.ethDst raw.ethSrc raw.bytes))
  else
    match hallFrame raw with
    | none => .event s
    | some f => s.arrive f raw.port

/-- The hall frame that a command's header, kind and payload make. -/
def framed (h : Header) (kind : Byte) (payload : List Byte) : Frame :=
  { ethDst := h.ethDst, ethSrc := h.ethSrc, version := h.version, kind := kind, dst := h.dst, src := h.src, seq := h.seq,
    payload := payload }

/-- A hall frame as a command. -/
def State.takeFrame (s : State) (h : Header) (kind : Byte) (payload : List Byte) : Answer :=
  s.take (State.arrive (framed h kind payload) h.port)

/-! ## The frame commands -/

/-- FOREIGN_FRAME (R180). -/
def execForeignFrame (port : Port) (etherType : Half) (ethDst ethSrc : EthAddr) (bytes : List Byte) (s : State) : Answer :=
  s.take (State.arriveRaw ⟨port, true, ethDst, ethSrc, etherType, bytes⟩)

/-- FRAME_DROPPED (R180 to R182). -/
def execFrameDropped (raw : RawFrame) (s : State) : Answer := s.take (State.arriveRaw raw)

/-- HALL_FRAME_FORWARD (R183). -/
def execHallFrameForward (h : Header) (kind : Byte) (payload : List Byte) (s : State) : Answer := s.takeFrame h kind payload

/-- MOVE (R43). -/
def execMove (h : Header) (payload : List Byte) (s : State) : Answer := s.takeFrame h kindMove payload

/-- LIFT (R44). -/
def execLift (h : Header) (payload : List Byte) (s : State) : Answer := s.takeFrame h kindLift payload

/-- LOWER (R45). -/
def execLower (h : Header) (payload : List Byte) (s : State) : Answer := s.takeFrame h kindLower payload

/-- ARREST (R60, R86). -/
def execArrest (h : Header) (payload : List Byte) (s : State) : Answer := s.takeFrame h kindArrest payload

/-- SEG (R71). -/
def execSeg (h : Header) (payload : List Byte) (s : State) : Answer := s.takeFrame h kindSeg payload

/-- CRANE_SAMPLE (R40). -/
def execCraneSample (h : Header) (bridge trolley state : Byte) (s : State) : Answer :=
  s.takeFrame h kindSample [bridge, trolley, state]

/-- TABLE_SAMPLE (R79). -/
def execTableSample (h : Header) (state done : Byte) (s : State) : Answer := s.takeFrame h kindSample [state, done]

/-- MARKER_SAMPLE (R127). -/
def execMarkerSample (h : Header) (carriage state struck waiting : Byte) (s : State) : Answer :=
  s.takeFrame h kindSample [carriage, state, struck, waiting]

end Sys2Proof.Machine
end

