-- ==== Sys2Proof/Machine/Events.lean ====
section
/-! DEFINITION. The events that no frame brings: the cycle boundary, the timers' and limits' own events, the links, the
supply. A timer's event taken by itself acts where its condition holds, and does nothing elsewhere
(notes/assumptions/11.md). -/

namespace Sys2Proof.Machine

/-! ## The boundary and the stations (R165, R168) -/

/-- CYCLE_BOUNDARY (R168); with the cycle master STOPPED there is none (R167). -/
def execCycleBoundary (s : State) : Answer := s.event fun s => if s.started then s.boundary true else s

/-- STATION_STALE (R165): the miss that brings a FRESH station to its miss limit. -/
def execStationStale (station : Nat) (s : State) : Answer :=
  s.event fun s => if s.limitDue station .fresh then s.countMiss station else s

/-- STATION_SILENT (R165): the miss that brings a NEVER station to its miss limit. -/
def execStationSilent (station : Nat) (s : State) : Answer :=
  s.event fun s => if s.limitDue station .never then s.countMiss station else s

/-! ## Crane limits (R54, R57, R102) -/

/-- NOT_STARTED (R54). -/
def execNotStarted (crane : Fin 4) (s : State) : Answer := s.event fun s => s.checkStart crane

/-- OP_TIMEOUT (R57). -/
def execOpTimeout (crane : Fin 4) (s : State) : Answer := s.event fun s => s.checkTimeout crane

/-- HOLD_EXPIRED (R102). -/
def execHoldExpired (crane : Fin 4) (s : State) : Answer :=
  s.event fun s => (s.checkHold crane).1.perform (s.checkHold crane).2

/-! ## Table timers (R82, R83) -/

/-- STALL (R82). -/
def execStall (table : Fin 6) (s : State) : Answer := s.event fun s => if s.stallCounts table then s.raiseStall table else s

/-- LINGER_EXPIRY (R83). -/
def execLingerExpiry (table : Fin 6) (s : State) : Answer :=
  s.event fun s => if s.lingerDue table then s.perform [.tail table] else s

/-! ## Arc checks (R117 to R119) -/

/-- ARC_OVERRUN (R117), with the permit drop that follows it (R119), for a table whose controller station is FRESH, since
the check is a sample's. -/
def execArcOverrun (table : Fin 6) (s : State) : Answer :=
  s.event fun s =>
    if s.isFresh (.table table) && s.arcOverrunDue table then
      let x := (s.checkOverrun table).afterArc table
      x.1.perform x.2
    else s

/-- ARC_NO_START (R118), with the permit drop that follows it (R119), for a table whose controller station is FRESH. -/
def execArcNoStart (table : Fin 6) (s : State) : Answer :=
  s.event fun s =>
    if s.isFresh (.table table) && s.arcNoStartDue table then
      let x := (s.checkNoStart table).afterArc table
      x.1.perform x.2
    else s

/-! ## Links (R175, R177) -/

/-- PORT_F_LINK_DOWN (R175, R177). -/
def execPortFLinkDown (s : State) : Answer := s.event fun s => s.setLinkF false

/-- PORT_F_LINK_UP (R177). -/
def execPortFLinkUp (s : State) : Answer := s.event fun s => s.setLinkF true

/-- PORT_U_LINK_DOWN (R177). -/
def execPortULinkDown (s : State) : Answer := s.event fun s => s.setLinkU false

/-- PORT_U_LINK_UP (R177). -/
def execPortULinkUp (s : State) : Answer := s.event fun s => s.setLinkU true

/-! ## Supply (R16 and the reset tables, R192) -/

/-- The power-on values; what waits and what has been sent are the model's own and stay. -/
def State.poweredOn (s : State) : State := { State.reset with sentU := s.sentU, sentF := s.sentF, pending := s.pending }

/-- POWER_ON: supply is applied. -/
def execPowerOn (s : State) : Answer := .next s.poweredOn

/-- SUPPLY_REMOVED: all state is lost; nothing is taken until supply returns (notes/assumptions/6.md). -/
def execSupplyRemoved (s : State) : Answer := .next { s.poweredOn with powered := false }

end Sys2Proof.Machine
end

