-- ==== Sys2Proof/Machine/Dispatch.lean ====
section
/-! DEFINITION. The dispatch: one arm per command, each one call of its meaning. -/

namespace Sys2Proof.Machine

/-- The effect of a command on everything but the queue of commands. -/
def exec (i : Instr) (s : State) : Host.Outcome State Fault Refusal :=
  match i with
  | .powerOn => Sys2Proof.Machine.execPowerOn s
  | .geometrySet r ob wb zb ot wt zt => Sys2Proof.Machine.execGeometrySet r ob wb zb ot wt zt s
  | .geometryGet r => Sys2Proof.Machine.execGeometryGet r s
  | .zoneSet r zone use table capacity => Sys2Proof.Machine.execZoneSet r zone use table capacity s
  | .zoneGet r zone => Sys2Proof.Machine.execZoneGet r zone s
  | .zoneAck r zone => Sys2Proof.Machine.execZoneAck r zone s
  | .axisSet r channel mode depth reference tolerance pitch => Sys2Proof.Machine.execAxisSet r channel mode depth reference tolerance pitch s
  | .axisGet r channel => Sys2Proof.Machine.execAxisGet r channel s
  | .axisPreset r channel position => Sys2Proof.Machine.execAxisPreset r channel position s
  | .craneSet r crane values => Sys2Proof.Machine.execCraneSet r crane values s
  | .craneGet r crane => Sys2Proof.Machine.execCraneGet r crane s
  | .unitAbandon r unit => Sys2Proof.Machine.execUnitAbandon r unit s
  | .tableSet r table values => Sys2Proof.Machine.execTableSet r table values s
  | .tableGet r table => Sys2Proof.Machine.execTableGet r table s
  | .tableQueue r table start => Sys2Proof.Machine.execTableQueue r table start s
  | .tableSkip r table => Sys2Proof.Machine.execTableSkip r table s
  | .tableFlush r table => Sys2Proof.Machine.execTableFlush r table s
  | .tableResume r table => Sys2Proof.Machine.execTableResume r table s
  | .tableWearReset r table => Sys2Proof.Machine.execTableWearReset r table s
  | .arcGet r table => Sys2Proof.Machine.execArcGet r table s
  | .holdGet r => Sys2Proof.Machine.execHoldGet r s
  | .markerSet r marker lookAhead edgeMargin => Sys2Proof.Machine.execMarkerSet r marker lookAhead edgeMargin s
  | .markerGet r marker => Sys2Proof.Machine.execMarkerGet r marker s
  | .piecePut r values => Sys2Proof.Machine.execPiecePut r values s
  | .pieceGet r id => Sys2Proof.Machine.execPieceGet r id s
  | .pieceList r start count changedOnly => Sys2Proof.Machine.execPieceList r start count changedOnly s
  | .pieceDrop r id => Sys2Proof.Machine.execPieceDrop r id s
  | .pieceReserve r id tag => Sys2Proof.Machine.execPieceReserve r id tag s
  | .pieceUnreserve r id => Sys2Proof.Machine.execPieceUnreserve r id s
  | .piecePlace r id place => Sys2Proof.Machine.execPiecePlace r id place s
  | .pieceAmend r id values => Sys2Proof.Machine.execPieceAmend r id values s
  | .stationSet r station values => Sys2Proof.Machine.execStationSet r station values s
  | .stationGet r station => Sys2Proof.Machine.execStationGet r station s
  | .run r stepFlag => Sys2Proof.Machine.execRun r stepFlag s
  | .stop r => Sys2Proof.Machine.execStop r s
  | .cycleSet r trim => Sys2Proof.Machine.execCycleSet r trim s
  | .schedSet r entry list => Sys2Proof.Machine.execSchedSet r entry list s
  | .schedGet r entry => Sys2Proof.Machine.execSchedGet r entry s
  | .portEnable r port => Sys2Proof.Machine.execPortEnable r port s
  | .portDisable r port => Sys2Proof.Machine.execPortDisable r port s
  | .portAck r port => Sys2Proof.Machine.execPortAck r port s
  | .portGet r => Sys2Proof.Machine.execPortGet r s
  | .deviceSet r own report policy => Sys2Proof.Machine.execDeviceSet r own report policy s
  | .deviceGet r => Sys2Proof.Machine.execDeviceGet r s
  | .statusGet r => Sys2Proof.Machine.execStatusGet r s
  | .noticeMask r classes => Sys2Proof.Machine.execNoticeMask r classes s
  | .noticeAck r classes => Sys2Proof.Machine.execNoticeAck r classes s
  | .noticeGet r => Sys2Proof.Machine.execNoticeGet r s
  | .resetFull r scope => Sys2Proof.Machine.execResetFull r scope s
  | .resetRuntime r scope => Sys2Proof.Machine.execResetRuntime r scope s
  | .badRequest r payload => Sys2Proof.Machine.execBadRequest r payload s
  | .foreignFrame port etherType ethDst ethSrc bytes => Sys2Proof.Machine.execForeignFrame port etherType ethDst ethSrc bytes s
  | .frameDropped raw => Sys2Proof.Machine.execFrameDropped raw s
  | .hallFrameForward h kind payload => Sys2Proof.Machine.execHallFrameForward h kind payload s
  | .move h payload => Sys2Proof.Machine.execMove h payload s
  | .lift h payload => Sys2Proof.Machine.execLift h payload s
  | .lower h payload => Sys2Proof.Machine.execLower h payload s
  | .arrest h payload => Sys2Proof.Machine.execArrest h payload s
  | .seg h payload => Sys2Proof.Machine.execSeg h payload s
  | .craneSample h bridge trolley state => Sys2Proof.Machine.execCraneSample h bridge trolley state s
  | .tableSample h state done => Sys2Proof.Machine.execTableSample h state done s
  | .markerSample h carriage state struck waiting => Sys2Proof.Machine.execMarkerSample h carriage state struck waiting s
  | .cycleBoundary => Sys2Proof.Machine.execCycleBoundary s
  | .stationStale station => Sys2Proof.Machine.execStationStale station s
  | .stationSilent station => Sys2Proof.Machine.execStationSilent station s
  | .notStarted crane => Sys2Proof.Machine.execNotStarted crane s
  | .opTimeout crane => Sys2Proof.Machine.execOpTimeout crane s
  | .holdExpired crane => Sys2Proof.Machine.execHoldExpired crane s
  | .stall table => Sys2Proof.Machine.execStall table s
  | .lingerExpiry table => Sys2Proof.Machine.execLingerExpiry table s
  | .arcOverrun table => Sys2Proof.Machine.execArcOverrun table s
  | .arcNoStart table => Sys2Proof.Machine.execArcNoStart table s
  | .portFLinkDown => Sys2Proof.Machine.execPortFLinkDown s
  | .portFLinkUp => Sys2Proof.Machine.execPortFLinkUp s
  | .portULinkDown => Sys2Proof.Machine.execPortULinkDown s
  | .portULinkUp => Sys2Proof.Machine.execPortULinkUp s
  | .supplyRemoved => Sys2Proof.Machine.execSupplyRemoved s

end Sys2Proof.Machine
end

