-- ==== Sys2Proof/Safety.lean ====
section
/-! DEFINITION. What counts as a safe state of the hall, and the words that the statements use of states and commands. -/

namespace Sys2Proof.Machine

/-! ## Safe states -/

/-- The second law of R4: no zone has a claim holder and a permit holder at the same time. (The first, at most one crane
as claim holder, is in the type of the field.) -/
abbrev State.ZonesExclusive (s : State) : Prop := ∀ z < 128, (s.zone z).claim = none ∨ (s.zone z).permit = none

/-- Run control is not left in STOPPING once every crane slot is EMPTY and no table holds its permit (R173). -/
abbrev State.Halts (s : State) : Prop := ¬(s.runState = .stopping ∧ s.workDone = true)

/-- What holds between events: a step consumed has led to STOPPING (R174), STOPPING with nothing left to do has led to
HALTED (R173), and a timer that does not count reads 0 (R82, R83). -/
abbrev State.Settled (s : State) : Prop :=
  ¬(s.stepFlag = true ∧ s.stepConsumed = true ∧ s.runState = .running) ∧ s.Halts ∧
  ∀ t : Fin 6, (s.stallCounts t = false → (s.table t).stall = 0) ∧ (s.lingerCounts t = false → (s.table t).linger = 0)

/-- The Stock Table in its form: IDs strictly ascending (R141). -/
abbrev State.StockSorted (s : State) : Prop := s.stock.Pairwise fun p q => p.id < q.id

/-- How many piece records are located at ZONE(z) (R6). -/
def State.piecesAt (s : State) (z : Nat) : Nat := s.stock.countP fun p => decide (p.location = .zone z)

/-- Whether a location is none of the zones that the Zone Table does not hold (R4). -/
def Location.inTable : Location → Bool
  | .zone z => decide (z < 128)
  | .onCrane _ | .onTable _ | .unverified _ => true

/-- A set geometry has at least one zone and a pitch of at least one count on each axis (R1). -/
abbrev State.GeometryInRange (s : State) : Prop :=
  s.geometrySet = true → (1 ≤ s.bridge.zones ∧ 1 ≤ s.bridge.pitch) ∧ 1 ≤ s.trolley.zones ∧ 1 ≤ s.trolley.pitch

/-- The stored counts of R6: each equals the number of records at its zone and passes no capacity; no record lies at a
zone that the Zone Table does not hold; the geometry is in range and addresses no zone that it does not hold (R1). -/
abbrev State.StockCounted (s : State) : Prop :=
  s.StockSorted ∧ s.GeometryInRange ∧ s.bridge.zones * s.trolley.zones ≤ 128 ∧
  (∀ p ∈ s.stock, p.location.inTable = true) ∧
  ∀ z < 128, (s.zone z).stored = s.piecesAt z ∧ (s.zone z).stored ≤ (s.zone z).capacity

/-- What R197 to R200 leave true of a notice class: it is pending exactly while its count is not 0, unsent only while
pending, and unsent only while it is masked or no report station is set; its count passes no 255. -/
abbrev Notice.Formed (n : Notice) (reported : Bool) : Prop :=
  (n.pending = true ↔ 0 < n.count) ∧ n.count ≤ 255 ∧ (n.unsent = true → n.pending = true) ∧
  (n.unsent = true → n.masked = true ∨ reported = false)

/-- The notice classes in their form, GUARD never masked (R197 to R200). -/
abbrev State.NoticesFormed (s : State) : Prop :=
  (s.notice .guard).masked = false ∧ ∀ k ∈ noticeClasses, (s.notice k).Formed s.report.isSome

/-- A channel in its form: position and reference value in the position range (R18, R29); in TWO mode S3 reads 0 and no
illegal episode is open (R21, R26). -/
abbrev Channel.Formed (ch : Channel) : Prop :=
  inPositionRange ch.position ∧ inPositionRange ch.reference ∧
  (ch.mode = .two → ch.l3.level = false ∧ ch.illegal = false)

/-- Every channel in its form. -/
abbrev State.ChannelsFormed (s : State) : Prop := ∀ a : Fin 12, (s.channel a).Formed

/-- A safe state of the hall: what every command keeps. -/
abbrev State.Safe (s : State) : Prop :=
  s.ZonesExclusive ∧ s.Settled ∧ s.StockCounted ∧ s.NoticesFormed ∧ s.ChannelsFormed

/-! ## Requests as they are taken -/

/-- The controller is supplied, between events, and takes the requests of a sender: they pass the port (R180) and the
header check (R181), and the sender may manage (R192). -/
abbrev State.Takes (s : State) (r : Req) : Prop :=
  s.powered = true ∧ s.Settled ∧ s.portTakes r.port = true ∧ s.sourceGood r.src = true ∧ s.mayManage r = true

/-- The reply of a request in which nothing is refused, with its data (R191). -/
abbrev done (data : List Byte := []) : Reply := { result := .ok, data := data }

/-- The reply of a request refused with a result, with no detail and no data (R194). -/
abbrev refusal (result : Result) : Reply := { result := result }

/-- The reply of a stock request refused with a result and a reason as its detail (R147). -/
abbrev stockRefusal (result : Result) (reason : Reason) : Reply := { result := result, detail := reason.code }

/-! ## Frames as they are taken -/

/-- The controller is supplied, between events, and takes the frames of a header: they pass the port (R180) and the header
check (R181), and carry version 1 (R182). -/
abbrev State.Hears (s : State) (h : Header) : Prop :=
  s.powered = true ∧ s.Settled ∧ s.portTakes h.port = true ∧ h.dst.toNat ≤ 63 ∧ s.sourceGood h.src = true ∧
  h.version = 1#8

/-- A frame for the station of a unit, heard and not the controller's own (R182). -/
abbrev State.Delivers (s : State) (h : Header) (k : StationKind) : Prop :=
  s.Hears h ∧ 1 ≤ h.dst.toNat ∧ h.dst.toNat ≠ s.ownStation ∧ (s.station h.dst.toNat).kind = k

/-- A sample for the controller, from a station bound to a unit (R164, R182). -/
abbrev State.Samples (s : State) (h : Header) (k : StationKind) : Prop :=
  s.Hears h ∧ h.dst.toNat = s.ownStation ∧ (s.station h.src.toNat).kind = k

/-- A sample copied upstream where its source's mirror flag is set, and its station freshened (R164). -/
def State.sampled (s : State) (h : Header) (payload : List Byte) : State :=
  (if (s.station h.src.toNat).mirror then s.transmit .u (.hall (framed h kindSample payload)) else s).modStation
    h.src.toNat fun n => { n with freshness := .fresh, misses := 0, polled := false, silent := false }

/-- No crane has an operation, no table works or holds a permit, no arc burns. -/
abbrev State.Quiet (s : State) : Prop :=
  s.hold = [] ∧ (∀ c : Fin 4, (s.crane c).slot = .empty) ∧
  ∀ t : Fin 6, (s.table t).state = .idle ∧ (s.table t).permit = false ∧ (s.arc t).arc.level = false

/-- The schedule entry of the next cycle (R168, R170). -/
def State.nextEntry (s : State) : List Nat :=
  s.scheduleEntry ⟨(s.cycle + 1).toNat % 32, Nat.mod_lt _ (by decide)⟩

/-- The frames of the boundary that begins the next cycle: CYCLE, then one POLL for each station of its schedule entry,
under the origin counter (R168, R184). -/
def State.boundaryFrames (s : State) : List Sent :=
  .hall (s.ownFrame kindCycle 0#8 (s.origin + 1) (put32 (s.cycle + 1))) ::
    s.nextEntry.zipIdx.map fun x =>
      .hall (s.ownFrame kindPoll (BitVec.ofNat 8 x.1) (s.origin + 2 + BitVec.ofNat 16 x.2) (put32 (s.cycle + 1)))

/-- Whether an entry is one that a SEG frame can carry whole: every field within its width, its kind part that of its
kind, and no mark (R70, R187, R189). -/
abbrev Entry.carriable (e : Entry) : Prop :=
  e.marks = [] ∧ e.piece ≤ 65535 ∧ e.tag ≤ 65535 ∧ e.arcLimit ≤ 65535 ∧ e.path.length ≤ 1024 ∧
  match e.kind, e.body with
  | .plateBegin, .plain | .pierceCut, .plain | .cut, .plain | .traverse, .plain => True
  | .other c, .plain => 7 < c.toNat ∨ c.toNat = 0
  | .markLine, .line start length dots _ => inPositionRange start ∧ length ≤ 65535 ∧ dots ≤ 255
  | .markText, .text position chars => inPositionRange position ∧ 1 ≤ chars.length ∧ chars.length ≤ 24
  | .plateEnd, .rects list => list.length ≤ 4 ∧ ∀ r ∈ list, r.id ≤ 65535 ∧ r.width ≤ 65535 ∧ r.length ≤ 65535
  | _, _ => False

end Sys2Proof.Machine

namespace Sys2Proof

open Machine

/-- The sender and the request code (R191) of a command that is a management request with its arguments. -/
def Instr.request : Instr → Option (Req × Half)
  | .geometrySet r .. => some (r, 0x0101#16)
  | .geometryGet r => some (r, 0x0102#16)
  | .zoneSet r .. => some (r, 0x0103#16)
  | .zoneGet r _ => some (r, 0x0104#16)
  | .zoneAck r _ => some (r, 0x0105#16)
  | .axisSet r .. => some (r, 0x0201#16)
  | .axisGet r _ => some (r, 0x0202#16)
  | .axisPreset r .. => some (r, 0x0203#16)
  | .craneSet r .. => some (r, 0x0301#16)
  | .craneGet r _ => some (r, 0x0302#16)
  | .unitAbandon r _ => some (r, 0x0303#16)
  | .tableSet r .. => some (r, 0x0401#16)
  | .tableGet r _ => some (r, 0x0402#16)
  | .tableQueue r .. => some (r, 0x0403#16)
  | .tableSkip r _ => some (r, 0x0404#16)
  | .tableFlush r _ => some (r, 0x0405#16)
  | .tableResume r _ => some (r, 0x0406#16)
  | .tableWearReset r _ => some (r, 0x0407#16)
  | .arcGet r _ => some (r, 0x0408#16)
  | .holdGet r => some (r, 0x0501#16)
  | .markerSet r .. => some (r, 0x0601#16)
  | .markerGet r _ => some (r, 0x0602#16)
  | .piecePut r _ => some (r, 0x0701#16)
  | .pieceGet r _ => some (r, 0x0702#16)
  | .pieceList r .. => some (r, 0x0703#16)
  | .pieceDrop r _ => some (r, 0x0704#16)
  | .pieceReserve r .. => some (r, 0x0705#16)
  | .pieceUnreserve r _ => some (r, 0x0706#16)
  | .piecePlace r .. => some (r, 0x0707#16)
  | .pieceAmend r .. => some (r, 0x0708#16)
  | .stationSet r .. => some (r, 0x0801#16)
  | .stationGet r _ => some (r, 0x0802#16)
  | .run r _ => some (r, 0x0803#16)
  | .stop r => some (r, 0x0804#16)
  | .cycleSet r _ => some (r, 0x0805#16)
  | .schedSet r .. => some (r, 0x0806#16)
  | .schedGet r _ => some (r, 0x0807#16)
  | .portEnable r _ => some (r, 0x0901#16)
  | .portDisable r _ => some (r, 0x0902#16)
  | .portAck r _ => some (r, 0x0903#16)
  | .portGet r => some (r, 0x0904#16)
  | .deviceSet r .. => some (r, 0x0A01#16)
  | .deviceGet r => some (r, 0x0A02#16)
  | .statusGet r => some (r, 0x0A03#16)
  | .noticeMask r _ => some (r, 0x0A04#16)
  | .noticeAck r _ => some (r, 0x0A05#16)
  | .noticeGet r => some (r, 0x0A06#16)
  | .resetFull r _ => some (r, 0x0A07#16)
  | .resetRuntime r _ => some (r, 0x0A07#16)
  | .powerOn | .badRequest .. | .foreignFrame .. | .frameDropped _ | .hallFrameForward .. | .move .. | .lift .. | .lower ..
  | .arrest .. | .seg .. | .craneSample .. | .tableSample .. | .markerSample .. | .cycleBoundary | .stationStale _
  | .stationSilent _ | .notStarted _ | .opTimeout _ | .holdExpired _ | .stall _ | .lingerExpiry _ | .arcOverrun _
  | .arcNoStart _ | .portFLinkDown | .portFLinkUp | .portULinkDown | .portULinkUp | .supplyRemoved => none

/-- The requests that only read (the GET requests, and TABLE.QUEUE). -/
def Instr.reads : Instr → Bool
  | .geometryGet _ | .zoneGet .. | .axisGet .. | .craneGet .. | .tableGet .. | .tableQueue .. | .arcGet .. | .holdGet _
  | .markerGet .. | .pieceGet .. | .stationGet .. | .schedGet .. | .portGet _ | .deviceGet _ | .statusGet _
  | .noticeGet _ => true
  | .powerOn | .geometrySet .. | .zoneSet .. | .zoneAck .. | .axisSet .. | .axisPreset .. | .craneSet .. | .unitAbandon ..
  | .tableSet .. | .tableSkip .. | .tableFlush .. | .tableResume .. | .tableWearReset .. | .markerSet .. | .piecePut ..
  | .pieceList .. | .pieceDrop .. | .pieceReserve .. | .pieceUnreserve .. | .piecePlace .. | .pieceAmend ..
  | .stationSet .. | .run .. | .stop _ | .cycleSet .. | .schedSet .. | .portEnable .. | .portDisable .. | .portAck ..
  | .deviceSet .. | .noticeMask .. | .noticeAck .. | .resetFull .. | .resetRuntime .. | .badRequest .. | .foreignFrame ..
  | .frameDropped _ | .hallFrameForward .. | .move .. | .lift .. | .lower .. | .arrest .. | .seg .. | .craneSample ..
  | .tableSample .. | .markerSample .. | .cycleBoundary | .stationStale _ | .stationSilent _ | .notStarted _
  | .opTimeout _ | .holdExpired _ | .stall _ | .lingerExpiry _ | .arcOverrun _ | .arcNoStart _ | .portFLinkDown
  | .portFLinkUp | .portULinkDown | .portULinkUp | .supplyRemoved => false

/-- The commands that cannot spell a RESET nor take the supply: what they change raises the status tag (R202). -/
def Instr.counted : Instr → Bool
  | .powerOn | .supplyRemoved | .resetFull .. | .resetRuntime .. | .badRequest .. | .foreignFrame .. | .frameDropped _
  | .hallFrameForward .. => false
  | .geometrySet .. | .geometryGet _ | .zoneSet .. | .zoneGet .. | .zoneAck .. | .axisSet .. | .axisGet .. | .axisPreset ..
  | .craneSet .. | .craneGet .. | .unitAbandon .. | .tableSet .. | .tableGet .. | .tableQueue .. | .tableSkip ..
  | .tableFlush .. | .tableResume .. | .tableWearReset .. | .arcGet .. | .holdGet _ | .markerSet .. | .markerGet ..
  | .piecePut .. | .pieceGet .. | .pieceList .. | .pieceDrop .. | .pieceReserve .. | .pieceUnreserve .. | .piecePlace ..
  | .pieceAmend .. | .stationSet .. | .stationGet .. | .run .. | .stop _ | .cycleSet .. | .schedSet .. | .schedGet ..
  | .portEnable .. | .portDisable .. | .portAck .. | .portGet _ | .deviceSet .. | .deviceGet _ | .statusGet _
  | .noticeMask .. | .noticeAck .. | .noticeGet _ | .move .. | .lift .. | .lower .. | .arrest .. | .seg .. | .craneSample ..
  | .tableSample .. | .markerSample .. | .cycleBoundary | .stationStale _ | .stationSilent _ | .notStarted _
  | .opTimeout _ | .holdExpired _ | .stall _ | .lingerExpiry _ | .arcOverrun _ | .arcNoStart _ | .portFLinkDown
  | .portFLinkUp | .portULinkDown | .portULinkUp => true

end Sys2Proof
end

