-- ==== Sys2Proof/Certificates/Slice0/Obligations.lean ====
section
/-! DEFINITION. The statements about the HT-418 for the provers. Each says what a command or the controller does, for every
state that its hypotheses name; OBLIGATIONS.json gives the rules each rests on. -/

open Sys2Proof Sys2Proof.Machine

/-- A step runs the command at the front of the queue. Step of a state with command c in front of its queue is exec of
c on the state with the queue's rest; on an empty queue the controller idles. The queue is the model's own
(notes/assumptions/13.md). (Block overview, 10.2 Arrival) -/
def Obligations.StepTakesTheFront : Prop :=
  (∀ (c : Instr) (s : State), step { s with pending := c :: s.pending } = exec c s) ∧
  ∀ s : State, s.pending = [] → step s = .next s

/-- Every command answers a next state, touches no waiting command and takes back no frame sent. For every command and
every state exec answers a next state, with the queue as it was; what has left the two ports stays, and new frames
stand after it. That the controller never stops is the model's reading (notes/assumptions/3.md), the transcripts are
the model's own (notes/assumptions/5.md). (R193, R194, 10.2 Arrival) -/
def Obligations.EveryCommandCompletes : Prop :=
  ∀ (c : Instr) (s : State), ∃ t : State, exec c s = .next t ∧ t.pending = s.pending ∧ s.sentU <+: t.sentU ∧
    s.sentF <+: t.sentF

/-- What the controller holds after power-on, and what supply decides. The reset state is the Power-on column of every
reset table, every field of State at its value: links DOWN with no change flag, schedule and trims empty and 0, reset
history 0, geometry unset, zones NONE, channels TWO with depth 2 and UNHOMED, cranes EMPTY at their default values,
tables IDLE, arc monitors unprimed, markers without line or text, no piece, stations NONE, own station 61, HALTED,
cycle master stopped, no notice pending. It is a safe state. POWER_ON leaves the power-on values and SUPPLY_REMOVED
leaves them without supply, with what was sent and what waits as they were (the model's own). In a state without
supply every other command changes nothing: the model's reading (notes/assumptions/6.md). (R16, R34, R63, R91, R109,
R123, R140, R159, R176, R186, R206, Resets) -/
def Obligations.SupplyAndPowerOnValues : Prop :=
  (State.reset.Safe ∧ State.reset.powered = true ∧ State.reset.linkU = false ∧ State.reset.linkF = false ∧
   State.reset.linkChangeU = false ∧ State.reset.linkChangeF = false ∧ State.reset.enableF = false ∧
   State.reset.enableChangeF = false ∧ State.reset.origin = 0 ∧ State.reset.ownStation = 61 ∧
   State.reset.report = none ∧ State.reset.policy = .forward ∧ State.reset.statusTag = 0 ∧
   State.reset.resetCount = 0 ∧ State.reset.lossCount = 0 ∧ State.reset.runState = .halted ∧
   State.reset.stepFlag = false ∧ State.reset.stepConsumed = false ∧ State.reset.stepDone = false ∧
   State.reset.stopCause = .none ∧ State.reset.cycle = 0 ∧ State.reset.trim = 0 ∧ State.reset.cycleTrim = 0 ∧
   State.reset.started = false ∧ State.reset.geometrySet = false ∧ State.reset.hold = [] ∧ State.reset.stock = [] ∧
   State.reset.stockCounter = 0 ∧ State.reset.sentU = [] ∧ State.reset.sentF = [] ∧ State.reset.pending = [] ∧
   State.reset.bridge = ⟨0, 0, 0⟩ ∧ State.reset.trolley = ⟨0, 0, 0⟩ ∧
   (∀ e : Fin 32, State.reset.scheduleEntry e = []) ∧
   (∀ z < 128, State.reset.zone z =
     { use := .none, capacity := 0, stored := 0, claim := none, permit := none, conflict := false }) ∧
   (∀ a : Fin 12, State.reset.channel a =
     { mode := .two, depth := 2, reference := 0, tolerance := 0, pitch := 1000, position := 0, homed := false,
       primed := false, resume := false, l1 := ⟨false, 0⟩, l2 := ⟨false, 0⟩, l3 := ⟨false, 0⟩, lref := ⟨false, 0⟩,
       lastValid := none, forward := 0, backward := 0, limit := false, illegal := false, lastDrift := 0 }) ∧
   (∀ c : Fin 4, State.reset.crane c =
     { config := ⟨500, 500, 3, 25, 25, 2000, 20000, 3000⟩, moving := false, still := 0, latchPrimed := false,
       latchResume := false, latch := ⟨false, 0⟩, load := .none, claimed := 0, trespass := [], slot := .empty,
       last := none }) ∧
   (∀ t : Fin 6, State.reset.table t =
     { config := ⟨none, 2, 4, 500, 200, 400, 2, true, false, 400, 0, 0⟩, state := .idle, permit := false, queue := [],
       released := 0, done := 0, flights := [], target := .controller, lastDone := none, ready := false, plate := none,
       expected := none, markSummary := false, overrun := false, lastSource := none, stall := 0, stallSent := false,
       linger := 0, yielders := [] }) ∧
   (∀ t : Fin 6, State.reset.arc t =
     { primed := false, resume := false, arc := ⟨false, 0⟩, lastEdge := 0, lastOn := 0, lastOff := 0, base := 0,
       watch := none, episode := false, platePierces := 0, wearPierces := 0, wearArc := 0, piercesReported := false,
       arcReported := false }) ∧
   (∀ m : Fin 4, State.reset.marker m =
     { lookAhead := 0, edgeMargin := 0, struck := none, waiting := 0, ready := false, edge := none, resume := false,
       line := none, text := none }) ∧
   (∀ n < 64, State.reset.station n =
     { kind := .none, side := .field, manage := false, mirror := false, missLimit := 8, freshness := .never,
       misses := 0, polled := false, silent := false }) ∧
   ∀ k ∈ noticeClasses, State.reset.notice k =
     { pending := false, unsent := false, masked := false, count := 0, detail := none }) ∧
  ((∀ s : State, exec .powerOn s =
     .next { State.reset with sentU := s.sentU, sentF := s.sentF, pending := s.pending }) ∧
   (∀ s : State, exec .supplyRemoved s =
     .next { State.reset with powered := false, sentU := s.sentU, sentF := s.sentF, pending := s.pending }) ∧
   ∀ (c : Instr) (s : State), s.powered = false → c ≠ .powerOn → c ≠ .supplyRemoved → exec c s = .next s)

/-- No step gives a zone both a claim holder and a permit holder. From every state in which no zone has a claim holder
and a permit holder together, a step of any command leads to such a state (the second law of R4). (R4, R15, R46, R49,
R93, R94) -/
def Obligations.StepKeepsClaimAndPermitApart : Prop :=
  ∀ s t : State, s.ZonesExclusive → step s = .next t → t.ZonesExclusive

/-- Every step keeps the stored counts equal to the records at each zone and within capacity, and a set geometry in
range. From every state whose Stock Table is sorted by ID, whose stored counts equal the numbers of records at their
zones and pass no capacity, and whose geometry, where it is set, has on each axis at least one zone and a pitch of at
least one count, a step of any command leads to such a state. (R1, R6, R141, R148, R151, R153) -/
def Obligations.StepKeepsStoredCounts : Prop :=
  ∀ s t : State, s.StockCounted → step s = .next t → t.StockCounted

/-- Between events run control and the timers are settled. From every state in which a consumed step has led to
STOPPING, a finished STOPPING to HALTED and every timer that does not count reads 0, a step of any command leads to
such a state. (R82, R83, R173, R174) -/
def Obligations.StepSettlesRunControl : Prop :=
  ∀ s t : State, s.Settled → step s = .next t → t.Settled

/-- Every step keeps the notice classes in their form. GUARD stays unmasked; a class is pending exactly while its
count is not 0, unsent only while pending and only while masked or without a report station; the count passes no 255.
(R197, R198, R199, R200) -/
def Obligations.StepKeepsNoticesFormed : Prop :=
  ∀ s t : State, s.NoticesFormed → step s = .next t → t.NoticesFormed

/-- Every step keeps each axis position in the position range. Positions and reference values stay in the range of
R29, and a channel in TWO mode reads S3 as 0 and holds no illegal episode. (R18, R21, R26, R29) -/
def Obligations.StepKeepsChannelsFormed : Prop :=
  ∀ s t : State, s.ChannelsFormed → step s = .next t → t.ChannelsFormed

/-- The status tag rises by one for each watched item that a command changes. For every command that cannot spell a
RESET or take the supply, the tag after it is the tag before it plus the number of watched items (run state, link
states and flags, Port F's enable state and flag, the five pending flags) whose value differs. That one command is one
event is the model's reading (notes/assumptions/6.md). (R202) -/
def Obligations.StatusTagCountsChanges : Prop :=
  ∀ (c : Instr) (s t : State), c.counted = true → exec c s = .next t →
    t.statusTag = s.statusTag + BitVec.ofNat 8 (watchedChanges s t)

/-- The accumulator of a span puts its k-th dot at b + floor(k l / n), all at once or one after another. For 1 ≤ n ≤ l
the accumulator started at l − n, lowered by n at each count and raised by l at each dot, lays n dots over l counts,
the k-th at base + floor(k × l / n). A line whose accumulator stands as it does after k dots of its span produces the
(k + 1)-th planned dot, under the next index, and its accumulator then stands as after k + 1 dots. (R129, R130, R131)
-/
def Obligations.PlannedDotsByAccumulator : Prop :=
  (∀ (b : Int) (l n : Nat), 1 ≤ n → n ≤ l → spanDots b l n = (List.range n).map fun k => spanDot b l n (k + 1)) ∧
  (∀ l : Line, 1 ≤ l.spanDots → l.spanDots ≤ l.spanLength → l.produced < l.spanDots →
     l.accumulator = accumulatorAfter l.spanLength l.spanDots l.produced →
     l.nextDot =
       (spanDot l.spanBase l.spanLength l.spanDots (l.produced + 1),
        { l with accumulator := accumulatorAfter l.spanLength l.spanDots (l.produced + 1), produced := l.produced + 1,
                 nextIndex := l.nextIndex + 1 }))

/-- A level changes at the depth-th differing sample; what a sample does to a channel that is primed, unprimed or
resuming. From a level whose candidate run is 0, fewer than D differing samples in a row leave the level and count the
run, D of them change the level and clear the run, and an equal sample clears the run. Homing puts the position at the
reference value, makes the channel HOMED and clears the LIMIT flag; where it was HOMED already the drift is the
distance moved, recorded, with one AXIS_DRIFT notice where a tolerance other than 0 is passed. A primed channel
filters its levels, decodes the phase state, and then, on an accepted rising edge of the reference, is homed as it
stands after the step. The first sample of an unprimed channel sets the levels, counts nothing and sees no edge; an
illegal state in it opens an episode. The first sample after STALE sets the levels and compares the state with the one
held: a difference is a SKIP, and no edge is seen. That a resuming sample in TWO mode writes the last valid state is
the model's choice (notes/assumptions/31.md), the value 0 or 7 of AXIS_ILLEGAL its reading (notes/assumptions/33.md).
(R21, R22, R23, R26, R30, R31) -/
def Obligations.LevelsAndHomingOfAChannel : Prop :=
  (∀ (l : Level) (depth : Nat), 1 ≤ depth →
     (∀ n < depth, l.run = 0 →
       (List.replicate n (!l.level)).foldl (fun x raw => x.take depth raw) l = { l with run := n }) ∧
     (l.run = 0 →
       (List.replicate depth (!l.level)).foldl (fun x raw => x.take depth raw) l = { level := !l.level, run := 0 }) ∧
     l.take depth l.level = { l with run := 0 }) ∧
  (∀ ch : Channel,
     (ch.homed = false → ch.home = ({ ch with position := ch.reference, homed := true, limit := false }, [])) ∧
     (ch.homed = true →
       ch.home.1 = { ch with position := ch.reference, homed := true, limit := false,
                             lastDrift := (ch.position - ch.reference).natAbs } ∧
       ch.home.2 = if ch.tolerance ≠ 0 ∧ ch.tolerance < (ch.position - ch.reference).natAbs then
         [(3, ((ch.position - ch.reference).natAbs : Int))] else [])) ∧
  (∀ (ch : Channel) (raw : RawLevels), ch.primed = true → ch.resume = false →
    let filtered := { ch with l1 := ch.l1.take ch.depth raw.s1, l2 := ch.l2.take ch.depth raw.s2,
                              l3 := match ch.mode with | .two => {} | .three => ch.l3.take ch.depth raw.s3,
                              lref := ch.lref.take ch.depth raw.ref }
    let decoded := filtered.decode ch.phase
    ch.sample raw =
      if ch.lref.level = false ∧ (ch.lref.take ch.depth raw.ref).level = true then
        (decoded.1.home.1, decoded.2 ++ decoded.1.home.2)
      else decoded) ∧
  ∀ (ch : Channel) (raw : RawLevels),
    let seen : Phase := ⟨raw.s1, raw.s2, match ch.mode with | .two => false | .three => raw.s3⟩
    let taken := { ch with l1 := ⟨seen.s1, 0⟩, l2 := ⟨seen.s2, 0⟩, l3 := ⟨seen.s3, 0⟩, lref := ⟨raw.ref, 0⟩,
                           primed := true, resume := false }
    let illegal := { taken with illegal := true }
    let notice : List ChannelEvent := [(2, if seen.s1 = true then 7 else 0)]
    (ch.primed = false → ch.mode = .two → ch.sample raw = ({ taken with lastValid := some seen }, [])) ∧
    (ch.primed = false → ch.mode = .three → seen.valid = true →
      ch.sample raw = ({ taken with lastValid := some seen, illegal := false }, [])) ∧
    (ch.primed = false → ch.mode = .three → seen.valid = false → ch.sample raw = (illegal, notice)) ∧
    (ch.primed = true → ch.resume = true → ch.mode = .two →
      ch.sample raw =
        if seen = ch.phase then ({ taken with lastValid := some seen }, [])
        else ({ taken with lastValid := some seen, homed := false }, [(1, ch.position)])) ∧
    (ch.primed = true → ch.resume = true → ch.mode = .three → seen.valid = true →
      ch.sample raw =
        if ch.lastValid = none ∨ ch.lastValid = some seen then
          ({ taken with lastValid := some seen, illegal := false }, [])
        else ({ taken with lastValid := some seen, illegal := false, homed := false }, [(1, ch.position)])) ∧
    (ch.primed = true → ch.resume = true → ch.mode = .three → seen.valid = false →
      ch.sample raw = if ch.illegal = true then (taken, []) else (illegal, notice))

/-- What an accepted change of the phase state does to a channel, in each mode. TWO mode: the next state of 00, 10,
11, 01 counts one forward step, the one before it one backward step, both sensors at once is a SKIP. THREE mode: the
same along 100, 110, 010, 011, 001, 101 against the last valid state; 000 and 111 open an illegal episode. Steps hold
the position in its range and raise the wrapping counters; a SKIP leaves the position and makes the channel UNHOMED,
with one AXIS_SKIP notice. That each decoded sample in TWO mode writes the last valid state is the model's choice
(notes/assumptions/31.md), the value 0 or 7 of AXIS_ILLEGAL its reading (notes/assumptions/33.md). (R24, R25, R26,
R27, R28, R29) -/
def Obligations.AcceptedStatesCountSteps : Prop :=
  (∀ (ch : Channel) (before : Phase), ch.mode = .two →
    ch.decode before =
      let kept := { ch with lastValid := some ch.phase }
      if ch.phase = before then (kept, [])
      else if ch.phase = before.nextTwo then
        ({ kept with position := min positionMax (ch.position + 1), forward := ch.forward + 1,
                     limit := ch.limit || decide (positionMax ≤ ch.position) }, [])
      else if before = ch.phase.nextTwo then
        ({ kept with position := max positionMin (ch.position - 1), backward := ch.backward + 1,
                     limit := ch.limit || decide (ch.position ≤ positionMin) }, [])
      else ({ kept with homed := false }, [(1, ch.position)])) ∧
  (∀ (ch : Channel) (before last : Phase), ch.mode = .three → ch.phase.valid = true → ch.lastValid = some last →
    ch.decode before =
      let kept := { ch with lastValid := some ch.phase, illegal := false }
      if ch.phase = last then (kept, [])
      else if ch.phase = last.nextThree then
        ({ kept with position := min positionMax (ch.position + 1), forward := ch.forward + 1,
                     limit := ch.limit || decide (positionMax ≤ ch.position) }, [])
      else if last = ch.phase.nextThree then
        ({ kept with position := max positionMin (ch.position - 1), backward := ch.backward + 1,
                     limit := ch.limit || decide (ch.position ≤ positionMin) }, [])
      else ({ kept with homed := false }, [(1, ch.position)])) ∧
  (∀ (ch : Channel) (before : Phase), ch.mode = .three → ch.phase.valid = false →
    ch.decode before =
      if ch.illegal = true then (ch, []) else ({ ch with illegal := true }, [(2, if ch.phase.s1 = true then 7 else 0)]))

/-- The index of a coordinate, and which indices an interval has inside the hall. For an axis as the hall geometry
sets it (at least one zone, a pitch of at least 1): index k holds exactly for O + kW ≤ x < O + (k + 1)W, for every
integer k; the index range of an interval is empty exactly where its last index is below 0 or its first above Z − 1,
and is otherwise the greater of the first and 0 to the lesser of the last and Z − 1, which are the hall indices from
the first to the last. (R10, R11) -/
def Obligations.ZoneIndexIsTheFloor : Prop :=
  ∀ g : AxisGeometry, 1 ≤ g.pitch → 1 ≤ g.zones →
    (∀ x k : Int, g.index x = k ↔ g.origin + k * g.pitch ≤ x ∧ x < g.origin + (k + 1) * g.pitch) ∧
    ∀ a b : Int, a ≤ b →
      (g.range a b = none ↔ g.index b < 0 ∨ (g.zones : Int) - 1 < g.index a) ∧
      (∀ lo hi : Nat, g.range a b = some (lo, hi) →
        (lo : Int) = max (g.index a) 0 ∧ (hi : Int) = min (g.index b) ((g.zones : Int) - 1)) ∧
      ∀ i : Nat, (∃ lo hi, g.range a b = some (lo, hi) ∧ lo ≤ i ∧ i ≤ hi) ↔
        g.index a ≤ i ∧ (i : Int) ≤ g.index b ∧ i < g.zones

/-- Margins, radius, index ranges and rectangles make the footprint and the sweep, which nest about the hook zone. The
radius of a piece is half of its greater side, rounded up; a radius in counts is radius × 1,000 / pitch, rounded up; a
margin is hook margin and radius in counts together, at most 65,535. A crane's load radius is 0 for no load, the
piece's for a tracked one, the kept one for an untracked one; a LIFT's is its piece's, or the saved one for piece ID 0
and for a piece whose record is gone. A zone lies in a footprint or a sweep where its column and its row lie in the
index ranges of their intervals, and each holds no zone twice and is ascending where the geometry is in range. A LOWER
requires nothing, a MOVE its sweep, a LIFT its footprint. The hook zone is that of the position with no margin. Where
the crane has a hook zone it is a zone of its footprint, and every zone of its footprint is a zone of its sweep. (R1,
R12, R13, R14, R43, R44) -/
def Obligations.ZoneRegionsNest : Prop :=
  (∀ (s : State) (c : Fin 4) (radius : Nat) (tb tt : Int),
    (∀ h, s.hookZone c = some h → h ∈ s.footprint c radius) ∧ ∀ z ∈ s.footprint c radius, z ∈ s.sweep c radius tb tt) ∧
  (∀ (p : Piece) (n : Nat), p.radius ≤ n ↔ p.width ≤ 2 * n ∧ p.length ≤ 2 * n) ∧
  (∀ radius pitch n : Nat, 1 ≤ pitch → (radiusCounts radius pitch ≤ n ↔ radius * 1000 ≤ n * pitch)) ∧
  (∀ (s : State) (c : Fin 4),
    s.loadRadius c = (match (s.crane c).load with
      | .none => 0
      | .piece id => match s.piece id with
        | some p => p.radius
        | none => 0
      | .untracked radius => radius) ∧
    (∀ saved, s.liftRadius 0 saved = saved) ∧
    (∀ id saved, id ≠ 0 → s.liftRadius id saved = match s.piece id with
      | some p => p.radius
      | none => saved) ∧
    (∀ id, (s.piece id = none ↔ ∀ p ∈ s.stock, p.id ≠ id) ∧ ∀ p, s.piece id = some p → p ∈ s.stock ∧ p.id = id) ∧
    (∀ tb tt, s.requirement c (.move tb tt) = s.sweep c (s.loadRadius c) tb tt) ∧
    (∀ id saved, s.requirement c (.lift id saved) = s.footprint c (s.liftRadius id saved)) ∧
    s.requirement c .lower = []) ∧
  (∀ (s : State) (c : Fin 4) (radius : Nat) (tb tt : Int),
    let pb := (s.channel (bridgeOf c)).position
    let pt := (s.channel (trolleyOf c)).position
    let mb : Int := (min 65535 ((s.crane c).config.bridgeMargin +
      radiusCounts radius (s.channel (bridgeOf c)).pitch) : Nat)
    let mt : Int := (min 65535 ((s.crane c).config.trolleyMargin +
      radiusCounts radius (s.channel (trolleyOf c)).pitch) : Nat)
    let covered (b0 b1 t0 t1 : Int) (z : Nat) := s.geometrySet = true ∧ ∃ c0 c1 r0 r1 col row : Nat,
      s.bridge.range b0 b1 = some (c0, c1) ∧ s.trolley.range t0 t1 = some (r0, r1) ∧ c0 ≤ col ∧ col ≤ c1 ∧
      r0 ≤ row ∧ row ≤ r1 ∧ z = row * s.bridge.zones + col
    (∀ z, z ∈ s.footprint c radius ↔ covered (pb - mb) (pb + mb) (pt - mt) (pt + mt) z) ∧
    (∀ z, z ∈ s.sweep c radius tb tt ↔
      covered (min pb tb - mb) (max pb tb + mb) (min pt tt - mt) (max pt tt + mt) z) ∧
    (s.GeometryInRange → (s.footprint c radius).Pairwise (· < ·) ∧ (s.sweep c radius tb tt).Pairwise (· < ·)) ∧
    s.sweep c radius pb pt = s.footprint c radius) ∧
  ∀ (s : State) (c : Fin 4) (h : Nat),
    s.hookZone c = some h ↔ s.geometrySet = true ∧ ∃ col row : Nat,
      s.bridge.index (s.channel (bridgeOf c)).position = col ∧ s.trolley.index (s.channel (trolleyOf c)).position = row ∧
      col < s.bridge.zones ∧ row < s.trolley.zones ∧ h = row * s.bridge.zones + col

/-- What a claim recompute leaves in the Zone Table, and what an evaluation of the Hold List grants, in which order.
With region G and footprint F: a zone of F free for the crane becomes its claim; of the zones it held, those outside G
and outside the free part of F are released; other cranes' claims and every permit stay; the trespass set is the part
of F that is not free, and each of its zones has its conflict flag set. A recompute with no new trespass has the list
evaluated exactly where it released a zone. An evaluation examines the entries oldest first, each against the grants
before it: a HELD crane with a valid position and a free required set takes it as its claim and leaves the list, or,
its own checks failing, leaves it refused; with a step to consume it ends the scan; one whose set is not free joins
the requester sets; a table whose permit set no crane claims and whose requester set is empty takes its permit. The
list only shrinks, in order; no claim moves, no permit lapses, no zone comes under both; without the step flag nothing
is left in the list that could still be granted. The order of tables is the model's (notes/assumptions/48.md). A new
trespass raises one GUARD notice, TRESPASS_KEEP_OUT where a new zone is of no usable use and TRESPASS elsewhere, with
the lowest new zone as value, sends the crane an ARREST, which cancels its HELD operation, and puts each table whose
permit is trespassed in FAULT, in ascending order; that the tables whose sets the cancellation empties act after the
faults is the model's choice (notes/assumptions/52.md). A permit can be granted where no zone of the table has a claim
holder. That the effects of a failed re-check follow after the scan, in list order, is the model's choice
(notes/assumptions/55.md), and so is the evaluation for a release after the acts of the tables whose sets a
cancellation empties (notes/assumptions/56.md). (R46, R47, R48, R49, R50, R93, R94, R99, R100, R101, R104) -/
def Obligations.RecomputeClaimsRegion : Prop :=
  (((∀ (s : State) (c : Fin 4),
    ((s.recompute c).1.crane c).trespass = (s.region c).2.filter (fun z => !(s.zone z).freeFor c) ∧
    ∀ z < 128,
      ((s.recompute c).1.zone z).claim =
        (if z ∈ (s.region c).2 ∧ (s.zone z).freeFor c = true then some c
         else if (s.zone z).claim = some c ∧ z ∉ (s.region c).1 then none else (s.zone z).claim) ∧
      ((s.recompute c).1.zone z).permit = (s.zone z).permit ∧ ((s.recompute c).1.zone z).use = (s.zone z).use ∧
      ((s.recompute c).1.zone z).stored = (s.zone z).stored ∧
      ((s.recompute c).1.zone z).conflict =
        ((s.zone z).conflict || decide (z ∈ (s.region c).2 ∧ (s.zone z).freeFor c = false))) ∧
  (∀ (s : State) (c : Fin 4),
    (∀ z ∈ (s.region c).2, (s.zone z).freeFor c = false → z ∈ (s.crane c).trespass) →
    ((∃ z < 128, (s.zone z).claim = some c ∧ z ∉ (s.region c).1) → (s.recompute c).2 = [.eval]) ∧
    ((∀ z < 128, (s.zone z).claim = some c → z ∈ (s.region c).1) → (s.recompute c).2 = [])) ∧
  (∀ (s : State) (c : Fin 4) (g : List Nat),
    (s.takeClaims c g) = { s with zones := (s.takeClaims c g).zones, cranes := (s.takeClaims c g).cranes } ∧
    (∀ z < 128, (s.takeClaims c g).zone z = if z ∈ g then { s.zone z with claim := some c } else s.zone z) ∧
    ∀ d : Fin 4, (s.takeClaims c g).crane d =
      if d = c then { s.crane d with claimed := ((s.takeClaims c g).claimedBy c).length } else s.crane d) ∧
  (∀ (s : State) (t : Fin 6),
    s.takePermit t = { s with zones := (s.takePermit t).zones, tables := (s.takePermit t).tables } ∧
    s.dropPermit t = { s with zones := (s.dropPermit t).zones, tables := (s.dropPermit t).tables } ∧
    (∀ z < 128,
      (s.takePermit t).zone z =
        (if z < s.zoneCount ∧ (s.zone z).use = .table t then { s.zone z with permit := some t } else s.zone z) ∧
      (s.dropPermit t).zone z =
        if (s.zone z).permit = some t then { s.zone z with permit := none } else s.zone z) ∧
    ∀ x : Fin 6,
      (s.takePermit t).table x = (if x = t then { s.table x with permit := true } else s.table x) ∧
      (s.dropPermit t).table x = if x = t then { s.table x with permit := false } else s.table x) ∧
  (∀ (s : State) (e : HoldEntry) (rest : List HoldEntry) (c : Fin 4), e.unit = .crane c →
    ((∀ op copy, (s.crane c).slot ≠ .held op copy) ∨ s.craneValid c = false →
      State.scan (e :: rest) s = State.scan rest s) ∧
    ∀ op copy, (s.crane c).slot = .held op copy → s.craneValid c = true →
      let g := s.requirement c op.operation
      let left (u : State) := { u with hold := u.hold.filter fun x => x.unit ≠ .crane c }
      (∀ reason, s.classify c g = .free → s.ownCheck c op.operation = some reason →
        State.scan (e :: rest) s =
          ((State.scan rest (left s)).1, .refuseCrane c reason :: (State.scan rest (left s)).2)) ∧
      (s.classify c g = .free → s.ownCheck c op.operation = none →
        (s.stepFlag = false →
          State.scan (e :: rest) s = ((State.scan rest (left (s.takeClaims c g))).1,
            .grantCrane c :: (State.scan rest (left (s.takeClaims c g))).2)) ∧
        (s.stepFlag = true → s.stepConsumed = false →
          State.scan (e :: rest) s = ({ left (s.takeClaims c g) with stepConsumed := true }, [.grantCrane c])) ∧
        (s.stepFlag = true → s.stepConsumed = true → State.scan (e :: rest) s = State.scan rest s)) ∧
      (s.classify c g ≠ .free →
        State.scan (e :: rest) s = ((State.scan rest (s.postYields c g).1).1,
          (s.postYields c g).2.map .filled ++ (State.scan rest (s.postYields c g).1).2))) ∧
  (∀ (s : State) (e : HoldEntry) (rest : List HoldEntry) (t : Fin 6), e.unit = .table t →
    let granted := { s.takePermit t with hold := s.hold.filter fun x => x.unit ≠ .table t }
    State.scan (e :: rest) s =
      if (∀ z < s.zoneCount, (s.zone z).use = .table t → (s.zone z).claim = none) ∧ (s.table t).yielders = [] then
        ((State.scan rest granted).1, .grantTable t :: (State.scan rest granted).2)
      else State.scan rest s) ∧
  ∀ s : State, State.scan [] s = (s, []) ∧
    let r := State.scan s.hold s
    r.1.hold.Sublist s.hold ∧ (s.ZonesExclusive → r.1.ZonesExclusive) ∧
    (∀ z < 128, (∀ c, (s.zone z).claim = some c → (r.1.zone z).claim = some c) ∧
      ((s.zone z).permit ≠ none → (r.1.zone z).permit ≠ none)) ∧
    (s.stepFlag = false →
      (∀ e ∈ r.1.hold, ∀ t, e.unit = .table t → r.1.permitGrantable t = false ∨ (r.1.table t).yielders ≠ []) ∧
      ∀ e ∈ r.1.hold, ∀ c op copy, e.unit = .crane c → (r.1.crane c).slot = .held op copy →
        r.1.craneValid c = true → r.1.classify c (r.1.requirement c op.operation) ≠ .free)) ∧
  (∀ (s : State) (c : Fin 4),
    s.region c = (match (s.crane c).slot with
      | .inFlight op => match op.operation with
        | .move tb tt => (s.sweep c (s.loadRadius c) tb tt, s.footprint c (s.loadRadius c))
        | .lift id saved => (s.footprint c (s.liftRadius id saved), s.footprint c (s.liftRadius id saved))
        | .lower => (s.footprint c (s.loadRadius c), s.footprint c (s.loadRadius c))
      | .empty | .held .. => (s.footprint c (s.loadRadius c), s.footprint c (s.loadRadius c))) ∧
    (s.GeometryInRange → (s.region c).2.Pairwise (· < ·)) ∧
    let trespass := (s.region c).2.filter fun z => !(s.zone z).freeFor c
    let newly := trespass.filter fun z => decide (z ∉ (s.crane c).trespass)
    ∃ u : State, u = { s with zones := u.zones, cranes := u.cranes } ∧
      u.zones = (s.recompute c).1.zones ∧ (∀ d : Fin 4, d ≠ c → u.crane d = s.crane d) ∧
      u.crane c = { s.crane c with claimed := (u.claimedBy c).length, trespass := trespass } ∧
      (s.recompute c).1 = (u.newTrespass c newly).1 ∧
      ((∃ z < 128, (s.zone z).claim = some c ∧ z ∉ (s.region c).1) →
        (s.recompute c).2 = (u.newTrespass c newly).2 ++ [.eval]) ∧
      ((∀ z < 128, (s.zone z).claim = some c → z ∈ (s.region c).1) →
        (s.recompute c).2 = (u.newTrespass c newly).2)) ∧
  (∀ (s : State) (c : Fin 4) (z : Nat),
    (s.zone z).freeFor c = true ↔ (s.zone z).use ≠ .none ∧ (s.zone z).use ≠ .keepOut ∧
      ((s.zone z).claim = none ∨ (s.zone z).claim = some c) ∧ (s.zone z).permit = none) ∧
  ∀ (s : State) (c : Fin 4), s.newTrespass c [] = (s, []) ∧
    (s.stationOf (.crane c) = none → s.sendArrest (.crane c) = s) ∧
    (∀ n, s.stationOf (.crane c) = some n → s.sendArrest (.crane c) = s.originate .f 0x13#8 (BitVec.ofNat 8 n) []) ∧
    ∀ (z : Nat) (rest : List Nat),
      let event := if ∃ y ∈ z :: rest, (s.zone y).use = .none ∨ (s.zone y).use = .keepOut then 2 else 1
      let told := (s.raise .guard event c.val z).sendArrest (.crane c)
      let left := if s.stationOf (.crane c) = none then (told, []) else told.dropHeld c .cancelled true
      let hit := ([0, 1, 2, 3, 4, 5] : List (Fin 6)).filter fun t =>
        decide (∃ y ∈ z :: rest, (s.zone y).permit = some t)
      s.newTrespass c (z :: rest) = (hit.foldl State.enterFault left.1, left.2) ∧
      ((∀ op copy, (s.crane c).slot ≠ .held op copy) → told.dropHeld c .cancelled true = (told, []))) ∧
  ∀ (s : State) (t : Fin 6), s.permitGrantable t = true ↔
    ∀ z, s.geometrySet = true → z < s.bridge.zones * s.trolley.zones → (s.zone z).use = .table t →
      (s.zone z).claim = none

/-- Every field of a payload reads back as it was written, whatever follows it. For values within their widths: 1, 2
and 4 byte fields, signed 3-byte positions, flags and optional fields written most significant byte first read back to
the same value, and leave the bytes after them. (R187, R191) -/
def Obligations.FieldsReadAsWritten : Prop :=
  ∀ rest : List Byte,
    (∀ n ≤ 255, get8 (put8 n ++ rest) = some (n, rest)) ∧ (∀ n ≤ 65535, get16 (put16 n ++ rest) = some (n, rest)) ∧
    (∀ n ≤ 4294967295, get32 (putNat32 n ++ rest) = some (n, rest)) ∧
    (∀ x : Int, inPositionRange x → get24 (put24 x ++ rest) = some (x, rest)) ∧
    (∀ b : Bool, getFlag (putFlag b ++ rest) = some (b, rest)) ∧
    ∀ o : Option Nat, (∀ n ∈ o, n ≤ 65535) → getOption get16 (putOption put16 o ++ rest) = some (o, rest)

/-- Reading the SEG payload that a released entry is sent as gives the entry back. For every entry that a SEG frame
can carry, of every kind and with every field at every value of its width, the payload written for it, with any bytes
after it, reads back as the same entry; only an entry kind outside 1 to 7 is found bad. That a released entry is
written from the fields stored is the model's reading (notes/assumptions/37.md), and so is what it stores of a kind
outside 1 to 7 (notes/assumptions/15.md). (R70, R78, R133, R187, R189) -/
def Obligations.SegPayloadReadsBack : Prop :=
  ∀ (e : Entry) (extra : List Byte), e.carriable →
    readSeg e.source e.seq (e.payload ++ extra) =
      some { entry := e, badLength := match e.kind with
        | .other _ => true
        | .plateBegin | .pierceCut | .cut | .traverse | .markLine | .markText | .plateEnd => false }

/-- What a reply frame is, and where it goes. The reply of a request is one frame of kind MGMT_REPLY, version 1, from
the own station to the requester, under the request's sequence, with the code, result and detail before its data; it
leaves the port the request came in on where that port is open, and nothing else changes. (R184, R187, R191, R193) -/
def Obligations.ReplyGoesToTheRequester : Prop :=
  ∀ (s : State) (r : Req) (code : Half) (a : Reply),
    s.reply r code a =
      let frame : Sent := .hall
        { ethDst := 0xFFFFFFFFFFFF#48, ethSrc := Config.ethernetAddress, version := 1#8, kind := 0x41#8, dst := r.src,
          src := BitVec.ofNat 8 s.ownStation, seq := r.seq,
          payload := put16 code.toNat ++ put8 a.result.code ++ put8 a.detail ++ a.data }
      match r.port with
      | .u => if s.linkU = true then { s with sentU := s.sentU ++ [frame] } else s
      | .f => if s.enableF = true ∧ s.linkF = true then { s with sentF := s.sentF ++ [frame] } else s

/-- A request that the port or the header check drops does nothing; one whose source may not manage is answered
DENIED. For every management request: through a disabled Port F, or from a source station of 0, above 63 or equal to
the own number, it changes nothing; otherwise, from a source that may not manage, the only change is the reply DENIED
under its code. A source may manage where some station record has its manage flag set and it is such a SOURCE, or
where none has and the request came through Port U. (R180, R181, R192) -/
def Obligations.RequestsAreJudgedFirst : Prop :=
  ∀ (c : Instr) (s : State) (r : Req) (code : Half), c.request = some (r, code) → s.powered = true → s.Settled →
    ((r.port = .f ∧ s.enableF = false) ∨ r.src.toNat < 1 ∨ 63 < r.src.toNat ∨ r.src.toNat = s.ownStation →
      exec c s = .next s) ∧
    (r.port = .u ∨ s.enableF = true → 1 ≤ r.src.toNat → r.src.toNat ≤ 63 → r.src.toNat ≠ s.ownStation →
      ¬((∃ n < 64, (s.station n).manage = true) ∧ (s.station r.src.toNat).kind = .source ∧
          (s.station r.src.toNat).manage = true ∨
        (∀ n < 64, (s.station n).manage = false) ∧ r.port = .u) →
      exec c s = .next (s.reply r code (refusal .denied)))

/-- Every GET request leaves the whole state as it was, but for its reply. For every request that only reads (R3, R8,
R20, R37, R68, R108, R122, R126, R149, R163, R170, R179, R196, R201, R203), taken from a source that may manage, with
every operand in or out of its range, the next state is the state before it with one reply. (Chapter 1: Hall Geometry
and Zone Arithmetic, R20, R37, R68, R108, R122, R126, R149, R163, R170, R179, Chapter 11: Management Requests, Notices
and Status) -/
def Obligations.ReadsChangeNothing : Prop :=
  ∀ (c : Instr) (s : State) (r : Req) (code : Half), c.request = some (r, code) → c.reads = true → s.Takes r →
    ∃ a : Reply, exec c s = .next (s.reply r code a)

/-- GEOMETRY.GET. The reply carries the flag, the six values and the zone count; while the flag is clear it carries
the flag clear and zeros; in any run state, and no state changes. The bytes' order and widths within R191 are the
model's (notes/assumptions/42.md). (R3, R187, R191) -/
def Obligations.GeometryGetReturns : Prop :=
  ∀ (r : Req) (s : State), s.Takes r →
    exec (.geometryGet r) s = .next (s.reply r 0x0102#16 (done
      (if s.geometrySet = true then
        putFlag true ++ put24 s.bridge.origin ++ put16 s.bridge.pitch ++ put8 s.bridge.zones ++
        put24 s.trolley.origin ++ put16 s.trolley.pitch ++ put8 s.trolley.zones ++
        put8 (s.bridge.zones * s.trolley.zones)
       else [0, 0, 0, 0, 0, 0, 0, 0, 0, 0, 0, 0, 0, 0])))

/-- ZONE.GET. The reply carries the zone's record: use, capacity, stored count, claim holder, permit holder, conflict
flag; a number at or beyond the zone count, and every number while the geometry is unset, is answered NOT_FOUND; no
state changes. The bytes' order and widths within R191 are the model's (notes/assumptions/42.md). A use is its code 0
to 5 in the order NONE, FLOOR, RACK, AISLE, TABLE, KEEP_OUT, a TABLE with its number. (R8, R187, R191) -/
def Obligations.ZoneGetReturns : Prop :=
  (∀ (r : Req) (zone : Nat) (s : State), s.Takes r →
    exec (.zoneGet r zone) s = .next (s.reply r 0x0104#16 (
      if s.geometrySet = true ∧ zone < s.bridge.zones * s.trolley.zones then
        done ((s.zone zone).use.put ++ put8 (s.zone zone).capacity ++ put8 (s.zone zone).stored ++
          putOption (fun c : Fin 4 => put8 c.val) (s.zone zone).claim ++
          putOption (fun t : Fin 6 => put8 t.val) (s.zone zone).permit ++ putFlag (s.zone zone).conflict)
      else refusal .notFound))) ∧
  Use.put .none = [0#8] ∧ Use.put .floor = [1#8] ∧ Use.put .rack = [2#8] ∧ Use.put .aisle = [3#8] ∧
  (∀ t : Fin 6, Use.put (.table t) = [4#8, BitVec.ofNat 8 t.val]) ∧ Use.put .keepOut = [5#8]

/-- AXIS.GET, CRANE.GET and MARKER.GET. AXIS.GET returns configuration and state of a channel 0 to 11; CRANE.GET
returns configuration, station, state, move slot and validity of a crane 0 to 3; other numbers are answered NOT_FOUND.
The bytes' order within R191 is the model's (notes/assumptions/42.md). MARKER.GET returns configuration, station,
bound table, position, validity and state of a marker 0 to 3 with its whole line or text record; other numbers are
answered NOT_FOUND. A unit's station is the record of its kind, and its samples are FRESH where that station is; a
marker's bound table is the lowest that names it. A load, a slot, a configuration, a last result, a line and a text
record are laid out field by field in the order of their rules. (R18, R20, R35, R37, R38, R39, R124, R126, R128, R130,
R131, R191) -/
def Obligations.UnitGetsReturn : Prop :=
  ((∀ (r : Req) (s : State), s.Takes r →
     (∀ a : Fin 12, exec (.axisGet r a.val) s = .next (s.reply r 0x0202#16 (done (
       put8 (s.channel a).mode.code ++ put8 (s.channel a).depth ++ put24 (s.channel a).reference ++
       put16 (s.channel a).tolerance ++ put16 (s.channel a).pitch ++ put24 (s.channel a).position ++
       put8 (if (s.channel a).homed = true then 0 else 1) ++ putFlag (s.channel a).limit ++
       putFlag (s.channel a).illegal ++ putFlag (s.channel a).primed ++ putFlag (s.channel a).l1.level ++
       putFlag (s.channel a).l2.level ++ putFlag (s.channel a).l3.level ++ putFlag (s.channel a).lref.level ++
       putOption Phase.put (s.channel a).lastValid ++ putNat32 (s.channel a).forward.toNat ++
       putNat32 (s.channel a).backward.toNat ++ putNat32 (s.channel a).lastDrift)))) ∧
     (∀ n, 12 ≤ n → exec (.axisGet r n) s = .next (s.reply r 0x0202#16 (refusal .notFound))) ∧
     (∀ c : Fin 4, exec (.craneGet r c.val) s = .next (s.reply r 0x0302#16 (done (
       putCraneConfig (s.crane c).config ++ putOption put8 (s.stationOf (.crane c)) ++
       (put8 (if (s.crane c).moving = true then 0 else 1) ++ put8 (s.crane c).still ++ putFlag (s.crane c).latchPrimed ++
        putFlag (s.crane c).latch.level ++ put8 (s.crane c).latch.run ++ (s.crane c).load.put ++
        put8 (s.crane c).claimed ++ putList put8 (s.crane c).trespass ++ putLastResult (s.crane c).last) ++
       (s.crane c).slot.put ++
       putFlag ((s.channel (bridgeOf c)).homed && (s.channel (trolleyOf c)).homed && s.isFresh (.crane c)))))) ∧
     ∀ n, 4 ≤ n → exec (.craneGet r n) s = .next (s.reply r 0x0302#16 (refusal .notFound))) ∧
  (∀ (r : Req) (s : State), s.Takes r →
     (∀ m : Fin 4, exec (.markerGet r m.val) s = .next (s.reply r 0x0602#16 (done (
       put24 (s.marker m).lookAhead ++ put16 (s.marker m).edgeMargin ++ putOption put8 (s.stationOf (.marker m)) ++
       putOption (fun t : Fin 6 => put8 t.val) (s.boundTable m) ++ put24 (s.channel (carriageOf m)).position ++
       putFlag ((s.channel (carriageOf m)).homed && s.isFresh (.marker m)) ++
       (putOption (fun b : Byte => [b]) (s.marker m).struck ++ put8 (s.marker m).waiting ++
        putFlag ((s.marker m).ready && s.isFresh (.marker m)) ++ putOption putFlag (s.marker m).edge ++
        putFlag (s.marker m).resume ++ putOption Line.put (s.marker m).line ++
        putOption TextMark.put (s.marker m).text))))) ∧
     ∀ n, 4 ≤ n → exec (.markerGet r n) s = .next (s.reply r 0x0602#16 (refusal .notFound)))) ∧
  (∀ (s : State) (k : StationKind),
    (s.stationOf k = none ↔ ∀ n < 64, (s.station n).kind ≠ k) ∧
    (∀ n, s.stationOf k = some n ↔ n < 64 ∧ (s.station n).kind = k ∧ ∀ m < n, (s.station m).kind ≠ k) ∧
    (s.isFresh k = true ↔ ∃ n, s.stationOf k = some n ∧ (s.station n).freshness = .fresh) ∧
    (∀ m t, s.boundTable m = some t ↔
      (s.table t).config.marker = some m ∧ ∀ u : Fin 6, u.val < t.val → (s.table u).config.marker ≠ some m)) ∧
  (∀ v : CraneConfig, putCraneConfig v = put16 v.bridgeMargin ++ put16 v.trolleyMargin ++ put8 v.settle ++
    put16 v.bridgeTolerance ++ put16 v.trolleyTolerance ++ put16 v.startLimit ++ put16 v.opLimit ++
    put16 v.holdLimit) ∧
  (Load.put .none = [0#8] ∧ (∀ id, Load.put (.piece id) = [1#8] ++ put16 id) ∧
    (∀ radius, Load.put (.untracked radius) = [2#8] ++ put16 radius) ∧ putLastResult none = [0#8] ∧
    ∀ l : LastResult, putLastResult (some l) = put8 (match l.result with
      | .complete => 1
      | .stoppedShort => 2
      | .notStarted => 3
      | .opTimeout => 4
      | .abandoned => 5) ++ put8 l.kind ++ put32 l.cycle) ∧
  (Slot.put .empty = [0#8] ∧ ∀ op : OpRecord,
    let fields (copy : List Byte) := (match op.operation with
        | .move tb tt => [0#8, op.source] ++ put16 op.seq.toNat ++ put24 tb ++ put24 tt
        | .lift id radius => [1#8, op.source] ++ put16 op.seq.toNat ++ put16 id ++ put16 radius
        | .lower => [2#8, op.source] ++ put16 op.seq.toNat) ++ copy ++
      put8 (match op.port with | .u => 0 | .f => 1) ++ put32 op.entry ++ (match op.operation with
        | .move .. => putFlag op.moved
        | .lift .. | .lower => [])
    (∀ copy : Frame, Slot.put (.held op copy) = [1#8] ++ fields ([copy.kind, copy.src] ++ put16 copy.seq.toNat)) ∧
    Slot.put (.inFlight op) = [2#8] ++ fields []) ∧
  (∀ l : Line, l.put = put16 l.id.toNat ++ put24 l.start ++ put16 l.length ++ put8 l.dots ++
    put8 (if l.refit = true then 1 else 0) ++ put8 l.total ++ put24 l.spanBase ++ put16 l.spanLength ++
    put8 l.spanDots ++ put16 l.accumulator.toNat ++ put16 l.nextIndex ++ put8 l.produced ++ put8 l.issued ++
    [l.struckBase] ++ putList (fun d : Nat × Int => put8 d.1 ++ put24 d.2) l.unstruck ++ putFlag l.edgeTaken) ∧
  (∀ x : TextMark, x.put = put16 x.segment.toNat ++ putOption put16 (if x.piece = 0 then none else some x.piece) ++
    [x.struckBase]) ∧
  Mode.code .two = 0 ∧ Mode.code .three = 1 ∧
  ∀ p : Phase, p.put = [BitVec.ofNat 8 ((if p.s1 = true then 1 else 0) + (if p.s2 = true then 2 else 0) +
    if p.s3 = true then 4 else 0)]

/-- TABLE.GET, TABLE.QUEUE, ARC.GET and HOLD.GET. TABLE.GET returns configuration, station, every field of R65 and the
head; TABLE.QUEUE up to eight summaries from its start index, BAD_VALUE above 23; ARC.GET the monitor; HOLD.GET the
list in order; a table number above 5 is answered NOT_FOUND. The arc time charged while none is charged is a free
value (notes/assumptions/2.md). While the arc is ON and a record is oldest, of any kind, the arc time charged is the
cycles since the overrun base. Codes and the order of fields are the model's (notes/assumptions/42.md). A set of
cranes is a count and the crane numbers (notes/assumptions/42.md), a mark set one byte with a bit for each mark of
R70. A table's twelve values and its state are laid out field by field in the order of their rules, a summary as
index, kind, segment, piece, tag and marks, an entry of the Hold List as unit, entry cycle and its operation or its
requester set. That an in-flight record's piece ID has no presence flag, 0 standing for none, is the model's reading
(notes/assumptions/42.md). (R64, R65, R68, R70, R79, R96, R108, R110, R122, R191) -/
def Obligations.TableReadsReturn : Prop :=
  (∀ (r : Req) (s : State), s.Takes r →
    (∀ t : Fin 6, exec (.tableGet r t.val) s = .next (s.reply r 0x0402#16 (done (
      (s.table t).config.put ++ putOption put8 (s.stationOf (.table t)) ++ (s.table t).putState (s.controllerReady t) ++
      put8 (s.table t).queue.length ++
      putOption (fun e : Entry => [e.kind.code] ++ put16 e.segment.toNat) (s.table t).queue.head?)))) ∧
    (∀ (t : Fin 6) (start : Nat), start ≤ 23 → exec (.tableQueue r t.val start) s = .next (s.reply r 0x0403#16 (done (
      put8 (s.table t).queue.length ++
      putList (fun e : Entry × Nat => e.1.putSummary e.2) (((s.table t).queue.zipIdx.drop start).take 8))))) ∧
    (∀ (t : Fin 6) (start : Nat), 24 ≤ start →
      exec (.tableQueue r t.val start) s = .next (s.reply r 0x0403#16 (refusal .badValue))) ∧
    (∀ t : Fin 6, exec (.arcGet r t.val) s = .next (s.reply r 0x0408#16 (done (
      putFlag (s.arc t).primed ++ put8 (if (s.arc t).arc.level = true then 0 else 1) ++ put8 (s.arc t).arc.run ++
      put8 (if (s.arc t).arc.level = true then 0 else 1) ++ put32 (s.cycle - (s.arc t).lastEdge) ++
      put32 (s.arc t).lastOn ++ put32 (s.arc t).lastOff ++ put32 (s.arc t).base ++
      put32 (if (s.arc t).arc.level = true ∧ (s.table t).flights ≠ [] then
          s.cycle - (s.arc t).base
        else Config.unchargedArcTime (s.arc t).base s.cycle) ++
      putOption (fun w : Half × CycleNo => put16 w.1.toNat) (s.arc t).watch ++
      put8 (if (s.arc t).episode = true then 0 else 1) ++ put16 (s.arc t).platePierces ++
      putNat32 (s.arc t).wearPierces ++ putNat32 (s.arc t).wearArc ++ putNat32 (s.table t).config.pierceLimit ++
      putNat32 (s.table t).config.arcLimit ++ putFlag (s.arc t).piercesReported ++ putFlag (s.arc t).arcReported)))) ∧
    (exec (.holdGet r) s = .next (s.reply r 0x0501#16 (done (putList s.putHold s.hold)))) ∧
    ∀ n start, 6 ≤ n →
      exec (.tableGet r n) s = .next (s.reply r 0x0402#16 (refusal .notFound)) ∧
      exec (.tableQueue r n start) s = .next (s.reply r 0x0403#16 (refusal .notFound)) ∧
      exec (.arcGet r n) s = .next (s.reply r 0x0408#16 (refusal .notFound))) ∧
  (∀ v : TableConfig, v.put = putOption (fun m : Fin 4 => put8 m.val) v.marker ++ put8 v.window ++ put8 v.lowWater ++
    put16 v.stallLimit ++ put16 v.linger ++ put16 v.ignite ++ put8 v.arcDepth ++
    put8 (if v.yieldAllowed = true then 0 else 1) ++ put8 (if v.markFirst = true then 0 else 1) ++ put16 v.minSide ++
    putNat32 v.pierceLimit ++ putNat32 v.arcLimit) ∧
  (∀ (x : Table) (ready : Bool), x.putState ready =
    put8 x.state.code ++ putFlag x.permit ++ [x.released, x.done] ++ put8 (x.released - x.done).toNat ++
    putList (fun f : Flight => [f.kind.code] ++ put16 f.segment.toNat ++ put16 f.piece ++ put16 f.arcLimit ++
      put32 f.release) x.flights ++ put8 (match x.target with | .controller => 0 | .marker => 1) ++
    putOption (fun d : Byte => [d]) x.lastDone ++ putFlag ready ++ putOption put16 x.plate ++
    putOption (fun n : Half => put16 n.toNat) x.expected ++ putFlag x.markSummary ++ putFlag x.overrun ++
    putOption (fun p : Byte × Port => [p.1] ++ put8 (match p.2 with | .u => 0 | .f => 1)) x.lastSource ++
    put16 x.stall ++ putFlag x.stallSent ++ put16 x.linger ++ putList (fun c : Fin 4 => put8 c.val) x.yielders) ∧
  ([TableState.idle, .queued, .permitWait, .active, .yielding, .headError, .fault].map TableState.code = List.range 7) ∧
  ([EntryKind.plateBegin, .pierceCut, .cut, .traverse, .markLine, .markText, .plateEnd].map EntryKind.code =
      [1#8, 2#8, 3#8, 4#8, 5#8, 6#8, 7#8] ∧ ∀ c : Byte, EntryKind.code (.other c) = c) ∧
  (∀ (s : State) (t : Fin 6), s.controllerReady t = true ↔ (s.table t).ready = true ∧ s.isFresh (.table t) = true) ∧
  (∀ (e : Entry) (index : Nat), e.putSummary index = put8 index ++ [e.kind.code] ++ put16 e.segment.toNat ++
    putOption put16 (if e.piece = 0 then none else some e.piece) ++ put16 e.tag ++ [marksByte e.marks]) ∧
  (∀ (l : List Mark) (k : Fin 8), (marksByte l).getLsbD k.val = true ↔
    ∃ m ∈ l, [Mark.seqGap, .noMarker, .badFields, .pieceNotHere, .pieceReserved, .plateOpen, .noPlate,
      .markerUnhomed][k.val]? = some m) ∧
  ∀ (s : State) (e : HoldEntry), s.putHold e = match e.unit with
    | .crane c => put8 c.val ++ put32 e.entry ++ (match (s.crane c).slot with
      | .held op _ | .inFlight op => put8 op.operation.code ++ [op.source] ++ put16 op.seq.toNat
      | .empty => [])
    | .table t => put8 (0x10 + t.val) ++ put32 e.entry ++ putList (fun c : Fin 4 => put8 c.val) (s.table t).yielders

/-- PIECE.GET. The reply carries the record's block with its revision and changed flag; an ID with no record is
answered NOT_FOUND; no state changes. The block's bytes are those of R190; the 0 sent for no tag is the model's
(notes/assumptions/42.md). (R149, R190, R191) -/
def Obligations.PieceGetReturns : Prop :=
  ∀ (r : Req) (id : Nat) (s : State), s.Takes r →
    exec (.pieceGet r id) s = .next (s.reply r 0x0702#16 (
      match s.stock.find? fun p => p.id = id with
      | none => refusal .notFound
      | some p => done (put16 p.id ++ put8 p.kind.code ++ put16 (p.parent.getD 0) ++ put8 p.grade ++
          put16 p.thickness ++ put16 p.width ++ put16 p.length ++ put8 p.lifecycle.code ++ put8 p.location.codes.1 ++
          put8 p.location.codes.2 ++
          put8 ((if p.tag.isSome = true then 1 else 0) + (if p.marked = true then 2 else 0) +
            (if p.partlyCut = true then 4 else 0) + (if p.changed = true then 8 else 0)) ++
          put16 (p.tag.getD 0) ++ [p.revision])))

/-- PIECE.LIST. A start of 0 or above 65,535 or a count outside 1 to 16 is answered BAD_VALUE. Otherwise the reply
carries the first records at or above the start (with the flag: of those changed), the next ID, the piece count and
the stock frame counter; with the flag, and only then, the changed flags of the records returned are cleared. The
flags are returned as they stood before the clearing (notes/assumptions/39.md), and 0 stands for no tag
(notes/assumptions/42.md). (R150) -/
def Obligations.PieceListReturnsAndClears : Prop :=
  ∀ (r : Req) (start count : Nat) (changedOnly : Bool) (s : State), s.Takes r →
    exec (.pieceList r start count changedOnly) s =
      if start < 1 ∨ 65535 < start ∨ count < 1 ∨ 16 < count then .next (s.reply r 0x0703#16 (refusal .badValue))
      else
        let qualifies := fun (p : Piece) => changedOnly = false ∨ p.changed = true
        let returned := (s.stock.filter fun p => decide (start ≤ p.id ∧ qualifies p)).take count
        let next : Option Nat := match returned.getLast? with
          | none => none
          | some p => if ∃ q ∈ s.stock, p.id < q.id ∧ qualifies q then some (p.id + 1) else none
        .next (State.reply
          (if changedOnly = true then
            { s with stock := s.stock.map fun p =>
                if ∃ q ∈ returned, q.id = p.id then { p with changed := false } else p }
           else s)
          r 0x0703#16 (done (putList Piece.block returned ++ putOption put16 next ++ put16 s.stock.length ++
            put16 s.stockCounter.toNat)))

/-- STATION.GET, SCHED.GET, PORT.GET, DEVICE.GET, STATUS.GET and NOTICE.GET. STATION.GET returns the record of a
number 0 to 63, SCHED.GET the list of an entry 0 to 31 with the trims, the cycle number and the cycle master's state;
other numbers are answered NOT_FOUND. Each returns its fields as they stand: link, enable and change states; part code
HT-418, revision B, Ethernet address and the three settings; the status summary; pending, unsent, masked, count and
last detail of the five classes in priority order. Codes, the part code's bytes and their order within R191 are the
model's (notes/assumptions/42.md). A kind, a side, a freshness, a run state, a stop cause and a policy are their codes
in the order of their rules; a set of classes is one byte with bit k for the class of code k + 1; a WEAR value is sent
unsigned, every other signed. (R160, R163, R167, R170, R179, R190, R191, R195, R196, R201, R203) -/
def Obligations.HallGetsReturn : Prop :=
  ((∀ (r : Req) (s : State), s.Takes r →
     (∀ n ≤ 63, exec (.stationGet r n) s = .next (s.reply r 0x0802#16 (done (
       (s.station n).kind.put ++ put8 (s.station n).side.code ++ putFlag (s.station n).manage ++
       putFlag (s.station n).mirror ++ put8 (s.station n).missLimit ++ put8 (s.station n).freshness.code ++
       put8 (s.station n).misses ++ putFlag (s.station n).polled ++ putFlag (s.station n).silent)))) ∧
     (∀ n, 64 ≤ n → exec (.stationGet r n) s = .next (s.reply r 0x0802#16 (refusal .notFound))) ∧
     (∀ e : Fin 32, exec (.schedGet r e.val) s = .next (s.reply r 0x0807#16 (done (
       putList put8 (s.scheduleEntry e) ++ [BitVec.ofInt 8 s.trim, BitVec.ofInt 8 s.cycleTrim] ++ put32 s.cycle ++
       put8 (if s.started = true then 0 else 1))))) ∧
     ∀ n, 32 ≤ n → exec (.schedGet r n) s = .next (s.reply r 0x0807#16 (refusal .notFound))) ∧
  (∀ (r : Req) (s : State), s.Takes r →
     exec (.portGet r) s = .next (s.reply r 0x0904#16 (done (
       put8 (if s.linkU = true then 0 else 1) ++ putFlag s.linkChangeU ++ put8 (if s.linkF = true then 0 else 1) ++
       putFlag s.linkChangeF ++ put8 (if s.enableF = true then 0 else 1) ++ putFlag s.enableChangeF))) ∧
     exec (.deviceGet r) s = .next (s.reply r 0x0A02#16 (done (
       [0x48, 0x54, 0x2D, 0x34, 0x31, 0x38, 0x42] ++ putAddress Config.ethernetAddress ++ put8 s.ownStation ++
       putOption put8 s.report ++ put8 s.policy.code))) ∧
     exec (.statusGet r) s = .next (s.reply r 0x0A03#16 (done (
       put8 s.runState.code ++ putFlag s.stepFlag ++ putFlag s.stepConsumed ++ putFlag s.stepDone ++
       put8 s.stopCause.code ++ put32 s.cycle ++ put8 (if s.linkU = true then 0 else 1) ++
       put8 (if s.linkF = true then 0 else 1) ++ put8 (if s.enableF = true then 0 else 1) ++ putFlag s.linkChangeU ++
       putFlag s.linkChangeF ++ putFlag s.enableChangeF ++ [s.classSet Notice.pending, s.classSet Notice.masked] ++
       ([0, 1, 2, 3, 4, 5].flatMap fun t : Fin 6 => put8 (s.table t).state.code ++ put8 (s.table t).queue.length) ++
       ([0, 1, 2, 3].flatMap fun c : Fin 4 => put8 (s.crane c).slot.code ++ putFlag (s.craneValid c)) ++
       put16 s.stock.length ++ put8 s.resetCount ++ put8 s.lossCount ++ [s.statusTag]))) ∧
     exec (.noticeGet r) s = .next (s.reply r 0x0A06#16 (done (
       [NoticeClass.guard, .fault, .flow, .refusal, .wear].flatMap fun k =>
         putFlag (s.notice k).pending ++ putFlag (s.notice k).unsent ++ putFlag (s.notice k).masked ++
         put8 (s.notice k).count ++
         putOption (fun d : Detail => put8 d.code ++ put8 d.unit ++ detailValue k d.value) (s.notice k).detail))))) ∧
  (StationKind.put .none = [0#8] ∧ (∀ c : Fin 4, StationKind.put (.crane c) = [1#8, BitVec.ofNat 8 c.val]) ∧
    (∀ t : Fin 6, StationKind.put (.table t) = [2#8, BitVec.ofNat 8 t.val]) ∧
    (∀ m : Fin 4, StationKind.put (.marker m) = [3#8, BitVec.ofNat 8 m.val]) ∧ StationKind.put .source = [4#8]) ∧
  ([Side.field, .upstream].map Side.code = [0, 1] ∧ [Freshness.never, .fresh, .stale].map Freshness.code = [0, 1, 2] ∧
    [RunState.halted, .running, .stopping].map RunState.code = [0, 1, 2] ∧
    [StopCause.none, .stop, .stepDone, .linkLost].map StopCause.code = [0, 1, 2, 3] ∧
    [Policy.forward, .drop].map Policy.code = [0, 1]) ∧
  (∀ a : EthAddr, putAddress a = [a.extractLsb' 40 8, a.extractLsb' 32 8, a.extractLsb' 24 8, a.extractLsb' 16 8,
    a.extractLsb' 8 8, a.extractLsb' 0 8]) ∧
  (∀ (s : State) (p : Notice → Bool) (k : Fin 8), (s.classSet p).getLsbD k.val = true ↔
    ∃ c : NoticeClass, p (s.notice c) = true ∧
      k.val = match c with | .guard => 0 | .fault => 1 | .flow => 2 | .refusal => 3 | .wear => 4) ∧
  (∀ (k : NoticeClass) (v : Int), detailValue k v = match k with
    | .wear => putNat32 v.toNat
    | .guard | .fault | .flow | .refusal => putInt32 v) ∧
  ∀ (s : State) (c : Fin 4), s.craneValid c = true ↔ (s.channel (bridgeOf c)).homed = true ∧
    (s.channel (trolleyOf c)).homed = true ∧ s.isFresh (.crane c) = true

/-- GEOMETRY.SET: its checks in order, and what it writes. BUSY outside HALTED; BAD_VALUE for a value out of its range
or a product above 128; BUSY where a piece lies in, or a table not IDLE owns, a zone at or beyond the new count.
Otherwise flag and six values are written, every claim, claimed count and trespass set is cleared, zones below the
count keep the rest, zones at or beyond it go back to NONE. (R2) -/
def Obligations.GeometrySetWrites : Prop :=
  (∀ (r : Req) (ob : Int) (wb zb : Nat) (ot : Int) (wt zt : Nat) (s : State), s.Takes r →
    let good := inPositionRange ob ∧ inPositionRange ot ∧ (1 ≤ wb ∧ wb ≤ 65535) ∧ (1 ≤ wt ∧ wt ≤ 65535) ∧
      (1 ≤ zb ∧ zb ≤ 32) ∧ (1 ≤ zt ∧ zt ≤ 16) ∧ zb * zt ≤ 128
    let occupied := s.pieceBeyond (zb * zt) = true ∨
      ∃ z < 128, zb * zt ≤ z ∧ ∃ t : Fin 6, (s.zone z).use = .table t ∧ (s.table t).state ≠ .idle
    (s.runState ≠ .halted →
      exec (.geometrySet r ob wb zb ot wt zt) s = .next (s.reply r 0x0101#16 (refusal .busy))) ∧
    (s.runState = .halted → ¬good →
      exec (.geometrySet r ob wb zb ot wt zt) s = .next (s.reply r 0x0101#16 (refusal .badValue))) ∧
    (s.runState = .halted → good → occupied →
      exec (.geometrySet r ob wb zb ot wt zt) s = .next (s.reply r 0x0101#16 (refusal .busy))) ∧
    (s.runState = .halted → good → ¬occupied →
      ∃ u : State, exec (.geometrySet r ob wb zb ot wt zt) s = .next (u.reply r 0x0101#16 done) ∧
        u = { s with geometrySet := true, bridge := ⟨ob, wb, zb⟩, trolley := ⟨ot, wt, zt⟩, zones := u.zones,
                     cranes := u.cranes } ∧
        (∀ c : Fin 4, u.crane c = { s.crane c with claimed := 0, trespass := [] }) ∧
        ∀ z < 128, u.zone z =
          if z < zb * zt then { s.zone z with claim := none }
          else { use := .none, capacity := 0, stored := 0, claim := none, permit := (s.zone z).permit,
                 conflict := false })) ∧
  ∀ (s : State) (count : Nat),
    s.pieceBeyond count = true ↔ ∃ p ∈ s.stock, ∃ z, p.location = .zone z ∧ count ≤ z

/-- ZONE.SET and ZONE.ACK: their checks in order, and what they write. ZONE.SET: NOT_FOUND, then BAD_VALUE for a use
or capacity out of range, BUSY for a change of use of a zone claimed or permitted, or from or to a table that is not
IDLE, BAD_VALUE below the stored count or for a stored zone that would take no pieces; else use and capacity are
written. ZONE.ACK clears the conflict flag of one zone or of all addressable ones. The uses are coded 0 to 5 in the
order NONE, FLOOR, RACK, AISLE, TABLE, KEEP_OUT, a TABLE with a number 0 to 5. (R4, R7, R9, R191) -/
def Obligations.ZoneSetAndAckWrite : Prop :=
  ((∀ (r : Req) (zone use table capacity : Nat) (s : State), s.Takes r →
    exec (.zoneSet r zone use table capacity) s =
      if s.zoneCount ≤ zone then .next (s.reply r 0x0103#16 (refusal .notFound))
      else match useOf use table with
        | none => .next (s.reply r 0x0103#16 (refusal .badValue))
        | some u =>
          if 15 < capacity then .next (s.reply r 0x0103#16 (refusal .badValue))
          else if u ≠ (s.zone zone).use ∧ ((s.zone zone).claim ≠ none ∨ (s.zone zone).permit ≠ none ∨
              ∃ t : Fin 6, (u = .table t ∨ (s.zone zone).use = .table t) ∧ (s.table t).state ≠ .idle) then
            .next (s.reply r 0x0103#16 (refusal .busy))
          else if capacity < (s.zone zone).stored ∨ ((s.zone zone).stored ≠ 0 ∧ u ≠ .floor ∧ u ≠ .rack) then
            .next (s.reply r 0x0103#16 (refusal .badValue))
          else .next (State.reply (s.modZone zone fun z => { z with use := u, capacity := capacity }) r 0x0103#16 done)) ∧
  (∀ (r : Req) (zone : Nat) (s : State), s.Takes r →
    exec (.zoneAck r (.one zone)) s =
      if s.zoneCount ≤ zone then .next (s.reply r 0x0105#16 (refusal .notFound))
      else .next (State.reply (s.modZone zone fun z => { z with conflict := false }) r 0x0105#16 done)) ∧
  ∀ (r : Req) (s : State), s.Takes r →
    ∃ u : State, exec (.zoneAck r .all) s = .next (u.reply r 0x0105#16 done) ∧ u = { s with zones := u.zones } ∧
      ∀ z < 128, u.zone z = if z < s.zoneCount then { s.zone z with conflict := false } else s.zone z) ∧
  (∀ s : State, s.zoneCount = if s.geometrySet = true then s.bridge.zones * s.trolley.zones else 0) ∧
  ∀ code table : Nat, useOf code table =
    if code = 0 then some .none
    else if code = 1 then some .floor
    else if code = 2 then some .rack
    else if code = 3 then some .aisle
    else if code = 5 then some .keepOut
    else if h : code = 4 ∧ table < 6 then some (.table ⟨table, h.2⟩)
    else none

/-- AXIS.SET and AXIS.PRESET: their checks in order, and what they write. AXIS.SET: NOT_FOUND, BUSY outside HALTED
while the owner works on the channel, BAD_VALUE; else the five values are written; a change of mode makes the channel
UNHOMED and unprimed with the ILLEGAL flag clear, a change of depth alone clears the candidate runs, with the load
latch's for a bridge channel; position, counters, LIMIT flag and last drift stay, and with mode and depth kept all the
rest. AXIS.PRESET: NOT_FOUND, BUSY, BAD_VALUE; else the position is written, HOMED set, LIMIT cleared. What a change
of mode leaves of the levels is the model's choice (notes/assumptions/31.md), the mark for resumption cleared its
reading (notes/assumptions/32.md). The owner of a channel works on it while its crane's slot is not EMPTY, or its
marker has a line. (R17, R18, R19, R22, R32, R42) -/
def Obligations.AxisSetAndPresetWrite : Prop :=
  ((∀ (r : Req) (channel mode depth : Nat) (reference : Int) (tolerance pitch : Nat) (s : State), s.Takes r →
    12 ≤ channel →
      exec (.axisSet r channel mode depth reference tolerance pitch) s =
        .next (s.reply r 0x0201#16 (refusal .notFound))) ∧
  (∀ (r : Req) (a : Fin 12) (mode depth : Nat) (reference : Int) (tolerance pitch : Nat) (s : State), s.Takes r →
    let good := mode ≤ 1 ∧ (1 ≤ depth ∧ depth ≤ 4) ∧ inPositionRange reference ∧ tolerance ≤ 65535 ∧
      (1 ≤ pitch ∧ pitch ≤ 65535)
    let busy := s.runState ≠ .halted ∧ s.ownerFree a = false
    let m : Mode := if mode = 0 then .two else .three
    (busy → exec (.axisSet r a.val mode depth reference tolerance pitch) s =
        .next (s.reply r 0x0201#16 (refusal .busy))) ∧
    (¬busy → ¬good → exec (.axisSet r a.val mode depth reference tolerance pitch) s =
        .next (s.reply r 0x0201#16 (refusal .badValue))) ∧
    (¬busy → good →
      ∃ u : State, exec (.axisSet r a.val mode depth reference tolerance pitch) s = .next (u.reply r 0x0201#16 done) ∧
        u = { s with channels := u.channels, cranes := u.cranes } ∧
        (∀ b : Fin 12, b ≠ a → u.channel b = s.channel b) ∧
        u.channel a =
          (let ch := s.channel a
           let written : Channel :=
             { ch with mode := m, depth := depth, reference := reference, tolerance := tolerance, pitch := pitch }
           if m ≠ ch.mode then
             { written with homed := false, primed := false, resume := false, lastValid := none, illegal := false,
                            l3 := match m with | .two => { level := false, run := 0 } | .three => ch.l3 }
           else if depth ≠ ch.depth then
             { written with l1 := { level := ch.l1.level, run := 0 }, l2 := { level := ch.l2.level, run := 0 },
                            l3 := { level := ch.l3.level, run := 0 }, lref := { level := ch.lref.level, run := 0 } }
           else written) ∧
        ∀ c : Fin 4, u.crane c =
          if bridgeOf c = a ∧ depth ≠ (s.channel a).depth then
            { s.crane c with latch := { level := (s.crane c).latch.level, run := 0 } }
          else s.crane c)) ∧
  (∀ (r : Req) (a : Fin 12) (position : Int) (s : State), s.Takes r →
    exec (.axisPreset r a.val position) s =
      if s.ownerFree a = false then .next (s.reply r 0x0203#16 (refusal .busy))
      else if ¬inPositionRange position then .next (s.reply r 0x0203#16 (refusal .badValue))
      else .next (State.reply
        (s.modChannel a fun ch => { ch with position := position, homed := true, limit := false }) r 0x0203#16 done)) ∧
  ∀ (r : Req) (channel : Nat) (position : Int) (s : State), s.Takes r → 12 ≤ channel →
    exec (.axisPreset r channel position) s = .next (s.reply r 0x0203#16 (refusal .notFound))) ∧
  ∀ s : State,
    (∀ c : Fin 4, (s.ownerFree (bridgeOf c) = true ↔ (s.crane c).slot = .empty) ∧
      (s.ownerFree (trolleyOf c) = true ↔ (s.crane c).slot = .empty)) ∧
    (∀ m : Fin 4, s.ownerFree (carriageOf m) = true ↔ (s.marker m).line = none) ∧
    ∀ a : Fin 12, (∃ c : Fin 4, a = bridgeOf c ∨ a = trolleyOf c) ∨ ∃ m : Fin 4, a = carriageOf m

/-- CRANE.SET and MARKER.SET: their checks in order, and what they write. Each answers NOT_FOUND for a number that is
none, BUSY while the crane's slot is not EMPTY or the marker has a line or text, BAD_VALUE for a value out of its
range, and writes its values otherwise and nothing else. (R36, R125) -/
def Obligations.CraneAndMarkerSetWrite : Prop :=
  (∀ (r : Req) (c : Fin 4) (v : CraneConfig) (s : State), s.Takes r →
    exec (.craneSet r c.val v) s =
      if (s.crane c).slot ≠ .empty then .next (s.reply r 0x0301#16 (refusal .busy))
      else if ¬(v.bridgeMargin ≤ 65535 ∧ v.trolleyMargin ≤ 65535 ∧ (1 ≤ v.settle ∧ v.settle ≤ 8) ∧
          v.bridgeTolerance ≤ 65535 ∧ v.trolleyTolerance ≤ 65535 ∧ (100 ≤ v.startLimit ∧ v.startLimit ≤ 60000) ∧
          (100 ≤ v.opLimit ∧ v.opLimit ≤ 60000) ∧ (100 ≤ v.holdLimit ∧ v.holdLimit ≤ 60000)) then
        .next (s.reply r 0x0301#16 (refusal .badValue))
      else .next (State.reply (s.modCrane c fun k => { k with config := v }) r 0x0301#16 done)) ∧
  (∀ (r : Req) (n : Nat) (v : CraneConfig) (s : State), s.Takes r → 4 ≤ n →
    exec (.craneSet r n v) s = .next (s.reply r 0x0301#16 (refusal .notFound))) ∧
  (∀ (r : Req) (m : Fin 4) (ahead : Int) (margin : Nat) (s : State), s.Takes r →
    exec (.markerSet r m.val ahead margin) s =
      if (s.marker m).line ≠ none ∨ (s.marker m).text ≠ none then .next (s.reply r 0x0601#16 (refusal .busy))
      else if ¬(-65535 ≤ ahead ∧ ahead ≤ 65535 ∧ margin ≤ 65535) then
        .next (s.reply r 0x0601#16 (refusal .badValue))
      else .next (State.reply (s.modMarker m fun k => { k with lookAhead := ahead, edgeMargin := margin })
        r 0x0601#16 done)) ∧
  ∀ (r : Req) (n : Nat) (ahead : Int) (margin : Nat) (s : State), s.Takes r → 4 ≤ n →
    exec (.markerSet r n ahead margin) s = .next (s.reply r 0x0601#16 (refusal .notFound))

/-- TABLE.SET: its checks in order, and what it writes. NOT_FOUND; BUSY unless the table is IDLE or QUEUED; BAD_VALUE;
IN_USE for a marker that another table names. Otherwise the twelve values are written, a new arc filter depth clears
the arc's candidate run, a new wear limit its reported flag; in RUNNING a QUEUED table then processes its head. The
reply follows what head processing sends (notes/assumptions/7.md) and comes before the end of the event
(notes/assumptions/29.md); the mark policy's code is the model's (notes/assumptions/42.md). BAD_VALUE is for a marker
above 3 or a value outside its range: window 1 to 4, trigger 1 to 23, stall limit 50 to 65,535, linger to 10,000,
ignite limit 10 to 5,000, arc filter depth 1 to 4, minimum remnant side 100 to 30,000, wear limits to 4,294,967,295, a
policy of code 0 or 1. (R64, R67, R73, R111, R120, R191) -/
def Obligations.TableSetWrites : Prop :=
  ((∀ (r : Req) (n : Nat) (v : TableArgs) (s : State), s.Takes r → 6 ≤ n →
    exec (.tableSet r n v) s = .next (s.reply r 0x0401#16 (refusal .notFound))) ∧
  ∀ (r : Req) (t : Fin 6) (v : TableArgs) (s : State), s.Takes r →
    ((s.table t).state ≠ .idle → (s.table t).state ≠ .queued →
      exec (.tableSet r t.val v) s = .next (s.reply r 0x0401#16 (refusal .busy))) ∧
    ((s.table t).state = .idle ∨ (s.table t).state = .queued →
      (tableConfigOf v = none → exec (.tableSet r t.val v) s = .next (s.reply r 0x0401#16 (refusal .badValue))) ∧
      ∀ config, tableConfigOf v = some config →
        ((∃ m u, config.marker = some m ∧ u ≠ t ∧ (s.table u).config.marker = some m) →
          exec (.tableSet r t.val v) s = .next (s.reply r 0x0401#16 (refusal .inUse))) ∧
        ((∀ m u, config.marker = some m → u ≠ t → (s.table u).config.marker ≠ some m) →
          let before := (s.table t).config
          let written := (s.modTable t fun x => { x with config := config }).modArc t fun a =>
            { a with arc := if config.arcDepth = before.arcDepth then a.arc else { level := a.arc.level, run := 0 },
                     piercesReported := a.piercesReported && decide (config.pierceLimit = before.pierceLimit),
                     arcReported := a.arcReported && decide (config.arcLimit = before.arcLimit) }
          (s.runState ≠ .running ∨ (s.table t).state = .idle →
            exec (.tableSet r t.val v) s = .next (written.reply r 0x0401#16 done)) ∧
          exec (.tableSet r t.val v) s =
            .next (s.tagged (State.finish ((written.perform [.act t]).reply r 0x0401#16 done)))))) ∧
  ∀ v : TableArgs,
    let good := (∀ m, v.marker = some m → m ≤ 3) ∧ (1 ≤ v.window ∧ v.window ≤ 4) ∧ (1 ≤ v.lowWater ∧ v.lowWater ≤ 23) ∧
      (50 ≤ v.stallLimit ∧ v.stallLimit ≤ 65535) ∧ v.linger ≤ 10000 ∧ (10 ≤ v.ignite ∧ v.ignite ≤ 5000) ∧
      (1 ≤ v.arcDepth ∧ v.arcDepth ≤ 4) ∧ v.yieldPolicy ≤ 1 ∧ v.markPolicy ≤ 1 ∧
      (100 ≤ v.minSide ∧ v.minSide ≤ 30000) ∧ v.pierceLimit ≤ 4294967295 ∧ v.arcLimit ≤ 4294967295
    (¬good → tableConfigOf v = none) ∧
    (good → ∃ marker : Option (Fin 4), marker.map (fun m => m.val) = v.marker ∧ tableConfigOf v = some
      { marker := marker, window := v.window, lowWater := v.lowWater, stallLimit := v.stallLimit, linger := v.linger,
        ignite := v.ignite, arcDepth := v.arcDepth, yieldAllowed := decide (v.yieldPolicy = 0),
        markFirst := decide (v.markPolicy = 0), minSide := v.minSide, pierceLimit := v.pierceLimit,
        arcLimit := v.arcLimit })

/-- TABLE.SKIP, TABLE.FLUSH and TABLE.RESUME. TABLE.SKIP is BUSY unless the table is in HEAD_ERROR; in HALTED without
its permit it removes the head, and the table is QUEUED or IDLE. TABLE.FLUSH is BUSY in ACTIVE or YIELDING, with
entries in flight or the arc ON; without its permit the table leaves the Hold List, its queue, overrun flag, expected
segment and plate are cleared, a plate in cut is returned, and it is IDLE. TABLE.RESUME is BUSY unless the table is in
FAULT, and while the arc is ON at a FRESH controller; in HALTED, without its permit, the released count becomes the
done total, the in-flight list is emptied, and the table is QUEUED or IDLE; its other fields, and the queue, stay. In
every run state, and with the permit held: TABLE.SKIP puts the table in ACTIVE, or in YIELDING with requesters in its
set, and then tests the yield and processes the head; TABLE.FLUSH releases the permit and has the Hold List evaluated
before it clears the table; TABLE.RESUME releases the permit, has the list evaluated, empties the in-flight list and
processes the head. The reply follows the frames that these acts send, RETURNED and REFILL among them
(notes/assumptions/7.md). That TABLE.FLUSH and TABLE.RESUME release the permit and evaluate before their other effects
is the model's reading (notes/assumptions/40.md), and so is the end of the event after the reply
(notes/assumptions/29.md). (R72, R73, R81, R87, R88, R98, R106, R157, R65, R89, R94, R115) -/
def Obligations.TableRecoveryRequestsWrite : Prop :=
  (((∀ (r : Req) (n : Nat) (s : State), s.Takes r → 6 ≤ n →
     exec (.tableSkip r n) s = .next (s.reply r 0x0404#16 (refusal .notFound)) ∧
     exec (.tableFlush r n) s = .next (s.reply r 0x0405#16 (refusal .notFound))) ∧
   ∀ (r : Req) (t : Fin 6) (s : State), s.Takes r →
     ((s.table t).state ≠ .headError →
       exec (.tableSkip r t.val) s = .next (s.reply r 0x0404#16 (refusal .busy))) ∧
     ((s.table t).state = .headError → s.runState = .halted → (s.table t).permit = false →
       exec (.tableSkip r t.val) s = .next (State.reply
         ((s.removeHead t).modTable t fun x => { x with state := if x.queue = [] then .idle else .queued })
         r 0x0404#16 done)) ∧
     ((s.table t).state = .active ∨ (s.table t).state = .yielding ∨ (s.table t).inFlight ≠ 0 ∨
         (s.arc t).arc.level = true →
       exec (.tableFlush r t.val) s = .next (s.reply r 0x0405#16 (refusal .busy))) ∧
     ((s.table t).state ≠ .active → (s.table t).state ≠ .yielding → (s.table t).inFlight = 0 →
         (s.arc t).arc.level = false → (s.table t).permit = false →
       exec (.tableFlush r t.val) s = .next (State.reply
         ((State.returnPlate { s with hold := s.hold.filter fun e => e.unit ≠ .table t } (s.table t).plate).modTable t
           fun x => { x with queue := [], markSummary := false, overrun := false, expected := none, plate := none,
                             state := .idle, stall := 0 })
         r 0x0405#16 done))) ∧
  ((∀ (r : Req) (n : Nat) (s : State), s.Takes r → 6 ≤ n →
     exec (.tableResume r n) s = .next (s.reply r 0x0406#16 (refusal .notFound))) ∧
   ∀ (r : Req) (t : Fin 6) (s : State), s.Takes r →
     ((s.table t).state ≠ .fault ∨ ((s.arc t).arc.level = true ∧ s.isFresh (.table t) = true) →
       exec (.tableResume r t.val) s = .next (s.reply r 0x0406#16 (refusal .busy))) ∧
     ((s.table t).state = .fault → (s.arc t).arc.level = false ∨ s.isFresh (.table t) = false →
         s.runState = .halted → (s.table t).permit = false →
       ∃ u : State, exec (.tableResume r t.val) s = .next (u.reply r 0x0406#16 done) ∧
         u = { s with tables := u.tables, arcs := u.arcs } ∧
         u.table t = { s.table t with released := (s.table t).done, flights := [],
                                      state := if (s.table t).queue = [] then .idle else .queued } ∧
         (∀ x : Fin 6, x ≠ t → u.table x = s.table x ∧ u.arc x = s.arc x) ∧
         u.arc t = if (s.table t).flights = [] then s.arc t
           else { s.arc t with watch := none,
                               base := if (s.arc t).arc.level = true then s.cycle else (s.arc t).base }))) ∧
  ∀ (r : Req) (t : Fin 6) (s : State), s.Takes r →
    let skipped := (s.removeHead t).modTable t fun x =>
      if x.permit = true then
        { x with state := if x.yielders = [] then .active else .yielding, stall := 0, stallSent := false }
      else { x with state := if x.queue = [] then .idle else .queued }
    let works : List Work := if (skipped.table t).state = .yielding then [.tail t, .act t] else [.act t]
    let unlisted := { s with hold := s.hold.filter fun e => e.unit ≠ .table t }
    let released (u : State) := if (s.table t).permit = true then (u.dropPermit t).perform [.eval] else u
    ((s.table t).state = .headError →
      exec (.tableSkip r t.val) s =
        .next (s.tagged (State.finish ((skipped.perform works).reply r 0x0404#16 done)))) ∧
    ((s.table t).state ≠ .active → (s.table t).state ≠ .yielding → (s.table t).inFlight = 0 →
        (s.arc t).arc.level = false →
      exec (.tableFlush r t.val) s = .next (s.tagged (State.finish (State.reply
        (((released unlisted).returnPlate ((released unlisted).table t).plate).modTable t fun x =>
          { x with queue := [], markSummary := false, overrun := false, expected := none, plate := none,
                   state := .idle })
        r 0x0405#16 done)))) ∧
    ((s.table t).state = .fault → (s.arc t).arc.level = false ∨ s.isFresh (.table t) = false →
      exec (.tableResume r t.val) s = .next (s.tagged (State.finish (State.reply
        ((((released s).emptyFlights t).modTable t fun x =>
          { x with state := if x.queue = [] then .idle else .queued }).perform [.act t])
        r 0x0406#16 done))))

/-- TABLE.WEAR_RESET. A number above 5 is answered NOT_FOUND; otherwise the reply carries both wear counts as they
stood, both become 0 and both reported flags are cleared, in any run state and table state; nothing else changes.
(R121) -/
def Obligations.WearResetReturnsAndZeroes : Prop :=
  (∀ (r : Req) (n : Nat) (s : State), s.Takes r → 6 ≤ n →
    exec (.tableWearReset r n) s = .next (s.reply r 0x0407#16 (refusal .notFound))) ∧
  ∀ (r : Req) (t : Fin 6) (s : State), s.Takes r →
    exec (.tableWearReset r t.val) s = .next (State.reply
      (s.modArc t fun a =>
        { a with wearPierces := 0, wearArc := 0, piercesReported := false, arcReported := false })
      r 0x0407#16 (done (putNat32 (s.arc t).wearPierces ++ putNat32 (s.arc t).wearArc)))

/-- UNIT.ABANDON. A unit code of no crane and no table is answered NOT_FOUND, a unit whose station is not STALE BUSY.
Outside STOPPING an operation in flight ends as ABANDONED with its FAULT notice; a crane with an EMPTY slot is left as
it is. A table in HALTED outside FAULT loses its in-flight entries and its marks in progress, its arc reads OFF and
its ignite watch is cleared. A HELD operation is cancelled as by an ARREST. In every run state a table loses its
flights, marks, watch and arc so; one in FAULT that holds its permit drops it and the list is evaluated, any other
goes through the tests at the end of its handling. Unit codes are the model's reading (notes/assumptions/43.md), as
are the piece ID of a LOWER's notice (notes/assumptions/21.md) and the notice before the reply
(notes/assumptions/7.md). The tests at the end of a table's handling with no head processing are the model's reading
(notes/assumptions/41.md), as is the end of the event after the reply (notes/assumptions/29.md); that the list is
emptied before the arc is set OFF is its choice (notes/assumptions/53.md). An arc that was ON is taken as a fall at
the present cycle: the last on length, the last edge cycle and the episode follow, and with entries in flight the
overrun base becomes the present cycle; every other field of the monitor stays. (R38, R52, R60, R62, R90, R94, R98,
R113, R115, R119, R139) -/
def Obligations.AbandonEndsLostUnits : Prop :=
  (((∀ (r : Req) (n : Nat) (s : State), s.Takes r → (4 ≤ n ∧ n < 0x10) ∨ 0x16 ≤ n →
    exec (.unitAbandon r n) s = .next (s.reply r 0x0303#16 (refusal .notFound))) ∧
  (∀ (r : Req) (c : Fin 4) (s : State), s.Takes r →
    (s.isLost (.crane c) = false →
      exec (.unitAbandon r c.val) s = .next (s.reply r 0x0303#16 (refusal .busy))) ∧
    (s.isLost (.crane c) = true → (s.crane c).slot = .empty →
      exec (.unitAbandon r c.val) s = .next (s.reply r 0x0303#16 done)) ∧
    ∀ op, s.isLost (.crane c) = true → (s.crane c).slot = .inFlight op → s.runState ≠ .stopping →
      exec (.unitAbandon r c.val) s = .next (s.tagged (State.reply
        ((s.modCrane c fun k => { k with slot := .empty, last := some ⟨.abandoned, op.operation.code, s.cycle⟩ }).raise
          .fault 7 c.val (s.opPiece c op))
        r 0x0303#16 done))) ∧
  ∀ (r : Req) (t : Fin 6) (s : State), s.Takes r →
    (s.isLost (.table t) = false →
      exec (.unitAbandon r (0x10 + t.val)) s = .next (s.reply r 0x0303#16 (refusal .busy))) ∧
    (s.isLost (.table t) = true → s.runState = .halted → (s.table t).state ≠ .fault →
      ∃ u : State, exec (.unitAbandon r (0x10 + t.val)) s = .next (u.reply r 0x0303#16 done) ∧
        u = { s with tables := u.tables, arcs := u.arcs, markers := u.markers } ∧
        u.table t = { s.table t with released := (s.table t).done, flights := [] } ∧
        (∀ x : Fin 6, x ≠ t → u.table x = s.table x ∧ u.arc x = s.arc x) ∧
        u.arc t =
          (let a := s.arc t
           { a with arc := { level := false, run := 0 }, watch := none,
                    base := if a.arc.level = true ∧ (s.table t).flights ≠ [] then s.cycle else a.base,
                    lastOn := if a.arc.level = true then s.cycle - a.lastEdge else a.lastOn,
                    lastEdge := if a.arc.level = true then s.cycle else a.lastEdge,
                    episode := if a.arc.level = true then false else a.episode }) ∧
        ∀ m : Fin 4, u.marker m =
          if (s.table t).config.marker = some m then { s.marker m with line := none, text := none } else s.marker m)) ∧
  (∀ (r : Req) (c : Fin 4) (s : State), s.Takes r → s.isLost (.crane c) = true →
    (∀ op, (s.crane c).slot = .inFlight op →
      exec (.unitAbandon r c.val) s = .next (s.tagged (State.finish (State.reply
        ((s.modCrane c fun k => { k with slot := .empty, last := some ⟨.abandoned, op.operation.code, s.cycle⟩ }).raise
          .fault 7 c.val (s.opPiece c op))
        r 0x0303#16 done)))) ∧
    ∀ op copy, (s.crane c).slot = .held op copy →
      exec (.unitAbandon r c.val) s = .next (s.tagged (State.finish (State.reply
        ((s.dropHeld c .cancelled true).1.perform (s.dropHeld c .cancelled true).2) r 0x0303#16 done)))) ∧
  (∀ (r : Req) (t : Fin 6) (s : State), s.Takes r → s.isLost (.table t) = true →
    exec (.unitAbandon r (0x10 + t.val)) s = .next (s.tagged (State.finish (State.reply
      ((s.abandonTable t).1.perform (s.abandonTable t).2) r 0x0303#16 done)))) ∧
  ∀ (s : State) (t : Fin 6), ∃ u : State,
    s.abandonTable t =
      (if (s.table t).state = .fault ∧ (s.table t).permit = true then (u.dropPermit t, [.eval]) else (u, [.tail t])) ∧
    u = { s with tables := u.tables, arcs := u.arcs, markers := u.markers } ∧
    u.table t = { s.table t with released := (s.table t).done, flights := [] } ∧
    (∀ x : Fin 6, x ≠ t → u.table x = s.table x ∧ u.arc x = s.arc x) ∧
    u.arc t =
      (let a := s.arc t
       { a with arc := { level := false, run := 0 }, watch := none,
                base := if a.arc.level = true ∧ (s.table t).flights ≠ [] then s.cycle else a.base,
                lastOn := if a.arc.level = true then s.cycle - a.lastEdge else a.lastOn,
                lastEdge := if a.arc.level = true then s.cycle else a.lastEdge,
                episode := if a.arc.level = true then false else a.episode }) ∧
    ∀ m : Fin 4, u.marker m =
      if (s.table t).config.marker = some m then { s.marker m with line := none, text := none } else s.marker m) ∧
  (∀ (s : State) (k : StationKind),
    s.isLost k = true ↔ ∃ n, s.stationOf k = some n ∧ (s.station n).freshness = .stale) ∧
  ∀ (s : State) (c : Fin 4) (op : OpRecord), s.opPiece c op = match op.operation with
    | .move .. => 0
    | .lift id _ => id
    | .lower => match (s.crane c).load with
      | .piece id => id
      | .none | .untracked _ => 0

/-- PIECE.PUT and PIECE.DROP: their checks in order, and what they write. PIECE.PUT: BAD_VALUE for an argument out of
its range or a place that is none, IN_USE for an ID with a record, FULL with 256 records, then the place: a zone that
takes no pieces, a full zone, a table not IDLE or occupied, each with its reason; else the record is created.
PIECE.DROP: NOT_FOUND, BUSY on a crane, BUSY and PIECE_IN_CUT in cut; else the record is removed. Each change counts
at its zone and sends its STOCK frame. That PIECE.DROP's reply carries no record is the model's reading
(notes/assumptions/39.md), and so is the reply after the STOCK frame (notes/assumptions/7.md). The arguments are in
range with an ID of 1 to 65,535, a kind of 1 PLATE or 2 REMNANT, a parent for a REMNANT alone and of 1 to 65,535 (a
parent of 0 is the model's choice: notes/assumptions/51.md), grade to 255, thickness 30 to 1,500, width and length 100
to 30,000, a tag to 65,535, and a place that is a zone below the zone count or a table 0 to 5. A STOCK frame takes the
next value of the stock frame counter (the counter raised by one, the model's reading: notes/assumptions/27.md) and
carries cause, scrap count and record block; it leaves Port U for the report station where one is set and the link is
UP, and is formed and not sent elsewhere. That a removal's frame keeps the changed bit as it stood is the model's
choice (notes/assumptions/54.md), the 0 for no tag its reading (notes/assumptions/42.md). (R6, R141, R142, R144, R145,
R147, R148, R151, R184, R190) -/
def Obligations.PiecePutAndDropWrite : Prop :=
  (((∀ (r : Req) (v : PutArgs) (s : State), s.Takes r →
    exec (.piecePut r v) s =
      match s.putArguments v with
      | none => .next (s.reply r 0x0701#16 (refusal .badValue))
      | some (kind, place) =>
        if ∃ p ∈ s.stock, p.id = v.id then .next (s.reply r 0x0701#16 (refusal .inUse))
        else if 256 ≤ s.stock.length then .next (s.reply r 0x0701#16 (refusal .full))
        else match s.placeRefusal place with
          | some (result, reason) => .next (s.reply r 0x0701#16 (stockRefusal result reason))
          | none =>
            let p : Piece :=
              { id := v.id, kind := kind, parent := v.parent, grade := v.grade, thickness := v.thickness,
                width := v.width, length := v.length, lifecycle := .available, location := place, tag := v.tag,
                marked := v.marked, partlyCut := v.partlyCut, revision := 0, changed := true }
            .next (State.reply
              ((State.enterPlace { s with stock := insertPiece p s.stock } place).stockFrame .created 0 p)
              r 0x0701#16 (done p.block))) ∧
  ∀ (r : Req) (id : Nat) (s : State), s.Takes r →
    exec (.pieceDrop r id) s =
      match s.piece id with
      | none => .next (s.reply r 0x0704#16 (refusal .notFound))
      | some p =>
        if p.onCrane = true then .next (s.reply r 0x0704#16 (refusal .busy))
        else if p.lifecycle = .inCut then .next (s.reply r 0x0704#16 (stockRefusal .busy .pieceInCut))
        else .next (State.reply
          ((State.leavePlace { s with stock := s.stock.filter fun q => q.id ≠ id } p.location).stockFrame .dropped 0
            { p with revision := p.revision + 1 })
          r 0x0704#16 done)) ∧
  (∀ (s : State) (cause : StockCause) (scrap : Nat) (p : Piece),
    let block : List Byte := put16 p.id ++ put8 p.kind.code ++ put16 (p.parent.getD 0) ++ put8 p.grade ++
      put16 p.thickness ++ put16 p.width ++ put16 p.length ++ put8 p.lifecycle.code ++ put8 p.location.codes.1 ++
      put8 p.location.codes.2 ++
      put8 ((if p.tag.isSome = true then 1 else 0) + (if p.marked = true then 2 else 0) +
        (if p.partlyCut = true then 4 else 0) + (if p.changed = true then 8 else 0)) ++
      put16 (p.tag.getD 0) ++ [p.revision]
    let frame (n : Nat) : Sent := .hall
      { ethDst := 0xFFFFFFFFFFFF#48, ethSrc := Config.ethernetAddress, version := 1#8, kind := 0x33#8,
        dst := BitVec.ofNat 8 n, src := BitVec.ofNat 8 s.ownStation, seq := s.stockCounter + 1,
        payload := put8 cause.code ++ put8 scrap ++ block }
    p.block = block ∧
    s.stockFrame cause scrap p =
      { s with stockCounter := s.stockCounter + 1,
               sentU := s.sentU ++ match s.report with
                 | none => []
                 | some n => if s.linkU = true then [frame n] else [] }) ∧
  ([StockCause.created, .dropped, .consumed, .lifted, .lowered, .loadFall, .placed, .reserved, .unreserved, .amended,
    .cutBegun, .returned, .marked].map StockCause.code = List.range' 1 13) ∧
  (∀ (p : Piece) (l : List Piece), l.Pairwise (fun x y => x.id < y.id) → (∀ q ∈ l, q.id ≠ p.id) →
    insertPiece p l = (l.filter fun q => decide (q.id < p.id)) ++ p :: l.filter fun q => decide (p.id < q.id)) ∧
  ∀ (s : State) (place : Location),
    s.enterPlace place = (match place with
      | .zone z => s.modZone z fun k => { k with stored := k.stored + 1 }
      | .onCrane _ | .onTable _ | .unverified _ => s) ∧
    s.leavePlace place = match place with
      | .zone z => s.modZone z fun k => { k with stored := k.stored - 1 }
      | .onCrane _ | .onTable _ | .unverified _ => s) ∧
  (∀ (s : State) (v : PutArgs) (kind : PieceKind) (place : Location),
    s.putArguments v = some (kind, place) ↔
      (v.kind = 1 ∧ kind = .plate ∧ v.parent = none ∨
        v.kind = 2 ∧ kind = .remnant ∧ ∀ p, v.parent = some p → 1 ≤ p ∧ p ≤ 65535) ∧
      (v.place.kind = 1 ∧ s.geometrySet = true ∧ v.place.number < s.bridge.zones * s.trolley.zones ∧
          place = .zone v.place.number ∨
        v.place.kind = 3 ∧ ∃ t : Fin 6, v.place.number = t.val ∧ place = .onTable t) ∧
      (1 ≤ v.id ∧ v.id ≤ 65535) ∧ v.grade ≤ 255 ∧ (30 ≤ v.thickness ∧ v.thickness ≤ 1500) ∧
      (100 ≤ v.width ∧ v.width ≤ 30000) ∧ (100 ≤ v.length ∧ v.length ≤ 30000) ∧ ∀ tag, v.tag = some tag → tag ≤ 65535) ∧
  ∀ s : State,
    (∀ z : Nat, s.placeRefusal (.zone z) =
      if (s.zone z).use ≠ .floor ∧ (s.zone z).use ≠ .rack then some (.badValue, .zoneUnusable)
      else if (s.zone z).capacity ≤ (s.zone z).stored then some (.full, .zoneFull) else none) ∧
    ∀ t : Fin 6, s.placeRefusal (.onTable t) =
      if (s.table t).state ≠ .idle ∨ ∃ p ∈ s.stock, p.location = .onTable t then some (.busy, .tableOccupied) else none

/-- PIECE.RESERVE, PIECE.UNRESERVE, PIECE.PLACE and PIECE.AMEND. PIECE.RESERVE: BAD_VALUE for a tag above 65,535,
NOT_FOUND, PIECE_IN_CUT; an unreserved piece takes the tag, one reserved under it stays, one reserved under another is
IN_USE. PIECE.UNRESERVE: NOT_FOUND, PIECE_IN_CUT; a reserved piece loses its tag, an unreserved one stays. A change
raises the revision, sets the changed flag and sends one STOCK frame; the reply carries the record. PIECE.PLACE:
NOT_FOUND, BUSY on a crane, PIECE_IN_CUT, BAD_VALUE for a place that is none, unchanged at the place it has, BAD_VALUE
for a zone beyond the count, the place's own refusal; else the location is written and the zones' counts follow.
PIECE.AMEND: NOT_FOUND, PIECE_IN_CUT, BAD_VALUE; unchanged with the values it has; else the six fields are written.
The reply after the STOCK frame is the model's reading (notes/assumptions/7.md). A place is ZONE(z) by kind 1,
ON_TABLE(t) with t of 0 to 5 by kind 3, and none else; a zone is a place below the zone count. Its own refusal:
BAD_VALUE and ZONE_UNUSABLE for a zone neither FLOOR nor RACK, FULL and ZONE_FULL at its capacity, BUSY and
TABLE_OCCUPIED for a table that is not IDLE or has a piece. (R144, R145, R147, R152, R6, R153, R154, R190) -/
def Obligations.RecordRequestsWrite : Prop :=
  (((∀ (r : Req) (id tag : Nat) (s : State), s.Takes r →
     exec (.pieceReserve r id tag) s =
       if 65535 < tag then .next (s.reply r 0x0705#16 (refusal .badValue))
       else match s.piece id with
         | none => .next (s.reply r 0x0705#16 (refusal .notFound))
         | some p =>
           if p.lifecycle = .inCut then .next (s.reply r 0x0705#16 (stockRefusal .busy .pieceInCut))
           else if p.tag = some tag then .next (s.reply r 0x0705#16 (done p.block))
           else if p.tag ≠ none then .next (s.reply r 0x0705#16 (refusal .inUse))
           else
             let q := { p with tag := some tag, revision := p.revision + 1, changed := true }
             .next (State.reply ((s.writePiece id q).stockFrame .reserved 0 q) r 0x0705#16 (done q.block))) ∧
   ∀ (r : Req) (id : Nat) (s : State), s.Takes r →
     exec (.pieceUnreserve r id) s =
       match s.piece id with
       | none => .next (s.reply r 0x0706#16 (refusal .notFound))
       | some p =>
         if p.lifecycle = .inCut then .next (s.reply r 0x0706#16 (stockRefusal .busy .pieceInCut))
         else if p.tag = none then .next (s.reply r 0x0706#16 (done p.block))
         else
           let q := { p with tag := none, revision := p.revision + 1, changed := true }
           .next (State.reply ((s.writePiece id q).stockFrame .unreserved 0 q) r 0x0706#16 (done q.block))) ∧
  ((∀ (r : Req) (id : Nat) (place : PlaceArg) (s : State), s.Takes r →
     exec (.piecePlace r id place) s =
       match s.piece id with
       | none => .next (s.reply r 0x0707#16 (refusal .notFound))
       | some p =>
         if p.onCrane = true then .next (s.reply r 0x0707#16 (refusal .busy))
         else if p.lifecycle = .inCut then .next (s.reply r 0x0707#16 (stockRefusal .busy .pieceInCut))
         else match placeOf place with
           | none => .next (s.reply r 0x0707#16 (refusal .badValue))
           | some target =>
             if p.location = target then .next (s.reply r 0x0707#16 (done p.block))
             else if s.addressable target = false then .next (s.reply r 0x0707#16 (refusal .badValue))
             else match s.placeRefusal target with
               | some (result, reason) => .next (s.reply r 0x0707#16 (stockRefusal result reason))
               | none =>
                 let q := { p with location := target, revision := p.revision + 1, changed := true }
                 .next (State.reply
                   ((((s.writePiece id q).leavePlace p.location).enterPlace target).stockFrame .placed 0 q)
                   r 0x0707#16 (done q.block))) ∧
   ∀ (r : Req) (id : Nat) (v : AmendArgs) (s : State), s.Takes r →
     exec (.pieceAmend r id v) s =
       match s.piece id with
       | none => .next (s.reply r 0x0708#16 (refusal .notFound))
       | some p =>
         let q := { p with grade := v.grade, thickness := v.thickness, width := v.width, length := v.length,
                           marked := v.marked, partlyCut := v.partlyCut }
         if p.lifecycle = .inCut then .next (s.reply r 0x0708#16 (stockRefusal .busy .pieceInCut))
         else if ¬(v.grade ≤ 255 ∧ (30 ≤ v.thickness ∧ v.thickness ≤ 1500) ∧ (100 ≤ v.width ∧ v.width ≤ 30000) ∧
             (100 ≤ v.length ∧ v.length ≤ 30000)) then .next (s.reply r 0x0708#16 (refusal .badValue))
         else if q = p then .next (s.reply r 0x0708#16 (done p.block))
         else
           let q' := { q with revision := p.revision + 1, changed := true }
           .next (State.reply ((s.writePiece id q').stockFrame .amended 0 q') r 0x0708#16 (done q'.block)))) ∧
  (∀ place : PlaceArg, placeOf place =
    if place.kind = 1 then some (.zone place.number)
    else if h : place.kind = 3 ∧ place.number < 6 then some (.onTable ⟨place.number, h.2⟩)
    else none) ∧
  ∀ s : State,
    (∀ z, s.addressable (.zone z) = true ↔ s.geometrySet = true ∧ z < s.bridge.zones * s.trolley.zones) ∧
    (∀ t, s.addressable (.onTable t) = true) ∧
    (∀ z, (s.placeRefusal (.zone z) = some (.badValue, .zoneUnusable) ↔
        (s.zone z).use ≠ .floor ∧ (s.zone z).use ≠ .rack) ∧
      (s.placeRefusal (.zone z) = some (.full, .zoneFull) ↔
        ((s.zone z).use = .floor ∨ (s.zone z).use = .rack) ∧ (s.zone z).capacity ≤ (s.zone z).stored) ∧
      (s.placeRefusal (.zone z) = none ↔
        ((s.zone z).use = .floor ∨ (s.zone z).use = .rack) ∧ (s.zone z).stored < (s.zone z).capacity)) ∧
    ∀ t, (s.placeRefusal (.onTable t) = some (.busy, .tableOccupied) ↔
        (s.table t).state ≠ .idle ∨ ∃ p ∈ s.stock, p.location = .onTable t) ∧
      (s.placeRefusal (.onTable t) = none ↔
        (s.table t).state = .idle ∧ ∀ p ∈ s.stock, p.location ≠ .onTable t)

/-- STATION.SET: its checks in order, and what it writes. NOT_FOUND above 63, BAD_VALUE for 0, IN_USE for the own
number, BAD_VALUE for a value out of range or values that do not agree, IN_USE for a unit another record names, BUSY
where a unit whose binding changes is not idle. Otherwise the record is written; a change of kind also makes it NEVER
with its counts cleared, and the units at both ends take up their new binding unprimed; with the kind kept, only the
record changes. The values are in range and agree with a kind NONE, CRANE_NODE 0 to 3, TABLE_CTRL 0 to 5, MARKER_HEAD
0 to 3 or SOURCE, a side FIELD or UPSTREAM, a miss limit of 2 to 15, the manage flag with kind SOURCE alone, and side
FIELD for a unit-bound kind. A crane is idle with its slot EMPTY, a table IDLE or QUEUED, a marker with neither line
nor text; NONE and SOURCE name no unit. (R17, R22, R66, R123, R124, R160, R161, R162, R191) -/
def Obligations.StationSetWrites : Prop :=
  ((∀ (r : Req) (n : Nat) (v : StationArgs) (s : State), s.Takes r →
    (63 < n → exec (.stationSet r n v) s = .next (s.reply r 0x0801#16 (refusal .notFound))) ∧
    (n = 0 → exec (.stationSet r n v) s = .next (s.reply r 0x0801#16 (refusal .badValue))) ∧
    (1 ≤ n → n ≤ 63 → n = s.ownStation → exec (.stationSet r n v) s = .next (s.reply r 0x0801#16 (refusal .inUse)))) ∧
  ∀ (r : Req) (n : Nat) (v : StationArgs) (s : State), s.Takes r → 1 ≤ n → n ≤ 63 → n ≠ s.ownStation →
    (stationValues v = none → exec (.stationSet r n v) s = .next (s.reply r 0x0801#16 (refusal .badValue))) ∧
    ∀ kind side, stationValues v = some (kind, side) →
      let named := kind.isBound = true ∧ ∃ m < 64, m ≠ n ∧ (s.station m).kind = kind
      let busy := kind ≠ (s.station n).kind ∧ (s.unitIdle (s.station n).kind = false ∨ s.unitIdle kind = false)
      (named → exec (.stationSet r n v) s = .next (s.reply r 0x0801#16 (refusal .inUse))) ∧
      (¬named → busy → exec (.stationSet r n v) s = .next (s.reply r 0x0801#16 (refusal .busy))) ∧
      (¬named → kind = (s.station n).kind →
        exec (.stationSet r n v) s = .next (State.reply
          (s.modStation n fun x =>
            { x with side := side, manage := v.manage, mirror := v.mirror, missLimit := v.missLimit })
          r 0x0801#16 done)) ∧
      (¬named → ¬busy → kind ≠ (s.station n).kind →
        exec (.stationSet r n v) s = .next (State.reply
          (((s.modStation n fun _ =>
            { kind := kind, side := side, manage := v.manage, mirror := v.mirror, missLimit := v.missLimit,
              freshness := .never, misses := 0, polled := false, silent := false }).rebind
            (s.station n).kind).rebind kind)
          r 0x0801#16 done))) ∧
  (∀ (v : StationArgs) (kind : StationKind) (side : Side),
    let bound := v.kind = 1 ∨ v.kind = 2 ∨ v.kind = 3
    stationValues v = some (kind, side) ↔
      (v.kind = 0 ∧ kind = .none ∨ (v.kind = 1 ∧ ∃ c : Fin 4, v.unit = c.val ∧ kind = .crane c) ∨
        (v.kind = 2 ∧ ∃ t : Fin 6, v.unit = t.val ∧ kind = .table t) ∨
        (v.kind = 3 ∧ ∃ m : Fin 4, v.unit = m.val ∧ kind = .marker m) ∨ v.kind = 4 ∧ kind = .source) ∧
      (v.side = 0 ∧ side = .field ∨ v.side = 1 ∧ side = .upstream ∧ ¬bound) ∧
      (2 ≤ v.missLimit ∧ v.missLimit ≤ 15) ∧ (v.manage = true → v.kind = 4)) ∧
  (∀ kind : StationKind, kind.isBound = true ↔
    (∃ c, kind = .crane c) ∨ (∃ t, kind = .table t) ∨ ∃ m, kind = .marker m) ∧
  ∀ s : State,
    (∀ c, s.unitIdle (.crane c) = true ↔ (s.crane c).slot = .empty) ∧
    (∀ t, s.unitIdle (.table t) = true ↔ (s.table t).state = .idle ∨ (s.table t).state = .queued) ∧
    (∀ m, s.unitIdle (.marker m) = true ↔ (s.marker m).line = none ∧ (s.marker m).text = none) ∧
    s.unitIdle .none = true ∧ s.unitIdle .source = true

/-- What a unit holds once its station has changed. A crane's two channels and a marker's carriage channel are UNHOMED
and unprimed with no last valid state, positions kept; the load latch is unprimed; a table has no last done count and
is not ready, its arc level unprimed and OFF; a marker has no struck count and no edge level. What is left of the
accepted levels, of the load latch's level and run and of the ILLEGAL episode is the model's choice
(notes/assumptions/31.md), the resume mark cleared its reading (notes/assumptions/32.md). An arc that was ON is taken
as a fall at the present cycle, its episode closed; every other field of the monitor stays. The kinds NONE and SOURCE
name no unit. (R17, R22, R42, R66, R111, R113, R123, R124, R162) -/
def Obligations.RebindingLeavesUnitsUnprimed : Prop :=
  ((∀ (s : State) (c : Fin 4),
    let u := s.rebind (.crane c)
    u = { s with channels := u.channels, cranes := u.cranes } ∧
    (∀ a : Fin 12, u.channel a =
      if a = bridgeOf c ∨ a = trolleyOf c then
        { s.channel a with homed := false, primed := false, resume := false, lastValid := none }
      else s.channel a) ∧
    ∀ d : Fin 4, u.crane d =
      if d = c then { s.crane d with latchPrimed := false, latchResume := false } else s.crane d) ∧
  (∀ (s : State) (t : Fin 6),
    let u := s.rebind (.table t)
    u = { s with tables := u.tables, arcs := u.arcs } ∧
    (∀ x : Fin 6, u.table x =
      if x = t then { s.table x with lastDone := none, ready := false } else s.table x) ∧
    u.arc t =
      (let a := s.arc t
       { a with primed := false, resume := false, arc := { level := false, run := 0 },
                lastOn := if a.arc.level = true then s.cycle - a.lastEdge else a.lastOn,
                lastEdge := if a.arc.level = true then s.cycle else a.lastEdge,
                episode := if a.arc.level = true then false else a.episode }) ∧
    ∀ x : Fin 6, x ≠ t → u.arc x = s.arc x) ∧
  ∀ (s : State) (m : Fin 4),
    let u := s.rebind (.marker m)
    u = { s with channels := u.channels, markers := u.markers } ∧
    (∀ a : Fin 12, u.channel a =
      if a = carriageOf m then
        { s.channel a with homed := false, primed := false, resume := false, lastValid := none }
      else s.channel a) ∧
    ∀ k : Fin 4, u.marker k =
      if k = m then { s.marker k with struck := none, edge := none, waiting := 0, ready := false, resume := false }
      else s.marker k) ∧
  ∀ s : State, s.rebind .none = s ∧ s.rebind .source = s

/-- RUN. RUN is BUSY unless HALTED with Port F enabled, its link UP and the geometry set. Otherwise, with no unit at
work, the controller is RUNNING with the step flag as given, step and cause cleared, the cycle master STARTED at the
next cycle, its trim taken, the CYCLE frame and the polls of its entry sent, those stations' polls outstanding, the
status tag one higher. The origin counter takes one value for CYCLE and one for each poll, the next value each time
(notes/assumptions/27.md). With units at work the same start is followed by what a boundary does at the units and then
by each table's head processing, in ascending order. That RUN performs a whole boundary, its units included, is the
model's reading (notes/assumptions/26.md), and so is the reply after the CYCLE and POLL frames
(notes/assumptions/7.md) and before the end of the event (notes/assumptions/29.md). The boundary's frames are one
CYCLE frame to station 0 and a POLL frame to each station of the entry cycle mod 32, in the order of the list, under
successive values of the origin counter. (R73, R167, R168, R171, R184) -/
def Obligations.RunStartsTheCycle : Prop :=
  (((∀ (r : Req) (f : Bool) (s : State), s.Takes r →
    ¬(s.runState = .halted ∧ s.enableF = true ∧ s.linkF = true ∧ s.geometrySet = true) →
    exec (.run r f) s = .next (s.reply r 0x0803#16 (refusal .busy))) ∧
  ∀ (r : Req) (f : Bool) (s : State), s.Takes r → s.runState = .halted → s.enableF = true → s.linkF = true →
    s.geometrySet = true → s.Quiet →
    ∃ u : State, exec (.run r f) s = .next (u.reply r 0x0803#16 done) ∧
      u = { s with runState := .running, stepFlag := f, stepConsumed := false, stepDone := false, stopCause := .none,
                   started := true, cycle := s.cycle + 1, cycleTrim := s.trim, origin := s.origin + 1 + BitVec.ofNat 16 s.nextEntry.length,
                   stations := u.stations, sentF := s.sentF ++ s.boundaryFrames, statusTag := s.statusTag + 1 } ∧
      ∀ n < 64, u.station n =
        { s.station n with
            polled := (s.station n).polled || (decide (n ∈ s.nextEntry) && (s.station n).kind.isBound) }) ∧
  ∀ (r : Req) (f : Bool) (s : State), s.Takes r → s.runState = .halted → s.enableF = true → s.linkF = true →
    s.geometrySet = true →
    exec (.run r f) s = .next (s.tagged (State.finish (State.reply
      ((State.unitBoundary (State.beginCycle
        { s with runState := .running, stepFlag := f, stepConsumed := false, stepDone := false, stopCause := .none,
                 started := true })).perform [.act 0, .act 1, .act 2, .act 3, .act 4, .act 5])
      r 0x0803#16 done)))) ∧
  ∀ s : State,
    s.nextEntry = s.scheduleEntry ⟨(s.cycle + 1).toNat % 32, Nat.mod_lt _ (by decide)⟩ ∧
    s.boundaryFrames =
      let frame (kind dst : Byte) (seq : Half) (payload : List Byte) : Sent := .hall
        { ethDst := 0xFFFFFFFFFFFF#48, ethSrc := Config.ethernetAddress, version := 1#8, kind := kind, dst := dst,
          src := BitVec.ofNat 8 s.ownStation, seq := seq, payload := payload }
      frame 0x01#8 0#8 (s.origin + 1) (put32 (s.cycle + 1)) ::
        s.nextEntry.zipIdx.map fun x =>
          frame 0x02#8 (BitVec.ofNat 8 x.1) (s.origin + 2 + BitVec.ofNat 16 x.2) (put32 (s.cycle + 1))

/-- STOP, the end of a single step, and the acts that grants, requests, withdrawals and entry to STOPPING set off at
the units. Outside RUNNING, STOP is answered OK and changes nothing. In RUNNING the stop cause is STOP, the Hold List
is empty, no table is YIELDING, no piece record changes, and the run state is HALTED where nothing is left to do,
STOPPING otherwise; with no unit at work the only changes are those of HALTED: the cycle master stopped, no poll
outstanding, the status tag one higher. At the end of an event in RUNNING whose step is consumed, the step-done flag
is set, the stop cause is STEP_DONE, the run state is STOPPING or HALTED as there is still work or not, and the Hold
List is empty. The acts an event sets off are performed in order, each followed at once by what it sets off itself (up
to the bound of notes/assumptions/9.md). A granted crane has its held frame forwarded, ANSWER RELEASED sent, its slot
IN_FLIGHT from this cycle, its requests withdrawn; a granted table is ACTIVE, or YIELDING where a crane has joined its
set since; a table whose set a join filled becomes YIELDING while a requester is left, one whose set a withdrawal
emptied returns from YIELDING to ACTIVE while it is empty, and in PERMIT_WAIT has the list evaluated. A YIELDING table
with nothing in flight, its arc OFF and no CUT at its head, in RUNNING, drops its permit, to PERMIT_WAIT at the tail
of the list or to IDLE; a linger that has run out and STOPPING drop it to QUEUED or IDLE; the list is then evaluated.
Entry to STOPPING empties the list oldest first: each HELD crane is sent ANSWER REFUSED STOPPING, without a notice,
its slot EMPTY and its requests withdrawn; each table of the list is QUEUED with its stall timer at 0; then YIELDING
tables are ACTIVE again, and permits with nothing burning are dropped. Acts followed at once by what they set off are
the model's choice (notes/assumptions/47.md); the step and the test for HALTED at the end of the command
(notes/assumptions/29.md) and the list emptied whatever stood in it (notes/assumptions/46.md) are its reading. (R47,
R73, R83, R85, R101, R103, R105, R106, R107, R172, R173, R174) -/
def Obligations.StoppingEmptiesTheHoldList : Prop :=
  ((((∀ (r : Req) (s : State), s.Takes r → s.runState ≠ .running →
     exec (.stop r) s = .next (s.reply r 0x0804#16 done)) ∧
   (∀ (r : Req) (s : State), s.Takes r → s.runState = .running →
     ∃ t : State, exec (.stop r) s = .next t ∧ t.stopCause = .stop ∧ t.hold = [] ∧
       (∀ x : Fin 6, (t.table x).state ≠ .yielding) ∧ t.stock = s.stock ∧
       t.runState = if t.workDone then .halted else .stopping) ∧
   ∀ (r : Req) (s : State), s.Takes r → s.runState = .running → s.Quiet →
     ∃ u : State, exec (.stop r) s = .next (u.reply r 0x0804#16 done) ∧
       u = { s with runState := .halted, started := false, stopCause := .stop, stations := u.stations,
                    statusTag := s.statusTag + 1 } ∧
       ∀ n < 64, u.station n = { s.station n with polled := false }) ∧
  (∀ s : State, s.stepFlag = true → s.stepConsumed = true → s.runState = .running →
     s.finish.stepDone = true ∧ s.finish.stopCause = .stepDone ∧ s.finish.hold = [] ∧
     s.finish.runState = if s.finish.workDone then .halted else .stopping)) ∧
  (∀ (s : State) (c : Fin 4) (op : OpRecord) (copy : Frame), (s.crane c).slot = .held op copy →
    let freed := (((s.transmit .f (.hall copy)).answerOp op .released none).modCrane c fun k =>
      { k with slot := .inFlight { op with entry := s.cycle, moved := false } }).withdraw c
    Work.perform (.grantCrane c) s = (freed.1, freed.2.map .emptied) ∧
    ∀ reason, Work.perform (.refuseCrane c reason) s = s.dropHeld c reason true) ∧
  (∀ (s : State) (t : Fin 6),
    let x := s.table t
    let still := x.inFlight = 0 ∧ (s.arc t).arc.level = false
    let yields := s.runState = .running ∧ x.state = .yielding ∧ still ∧ ∀ e ∈ x.queue.head?, e.kind ≠ .cut
    let stops := s.runState = .stopping ∧ x.permit = true ∧ still ∧
      (x.state = .active ∨ x.state = .yielding ∨ x.state = .headError)
    Work.perform (.grantTable t) s =
      (s.modTable t fun y => { y with state := if y.yielders = [] then .active else .yielding, stall := 0,
                                      stallSent := false },
       if x.yielders = [] then [.act t] else [.tail t, .act t]) ∧
    Work.perform (.filled t) s =
      (if x.state = .active ∧ x.yielders ≠ [] then s.modTable t fun y => { y with state := .yielding } else s,
       [.tail t]) ∧
    Work.perform (.emptied t) s =
      (if x.state = .yielding ∧ x.yielders = [] then
        (s.modTable t fun y => { y with state := .active, stall := 0, stallSent := false }, [.act t])
      else if x.state = .permitWait then (s, [.eval]) else (s, [])) ∧
    Work.perform (.act t) s = Work.perform (.tail t) (s.headProcess t) ∧
    (yields → x.queue = [] →
      Work.perform (.tail t) s = ((s.dropPermit t).modTable t fun y => { y with state := .idle }, [.eval])) ∧
    (yields → x.queue ≠ [] →
      let waits := (s.dropPermit t).modTable t fun y =>
        { y with state := .permitWait, stall := 0, stallSent := false }
      Work.perform (.tail t) s = ({ waits with hold := s.hold ++ [⟨.table t, s.cycle⟩] }, [.eval])) ∧
    (¬yields → s.lingerDue t = true ∨ stops →
      Work.perform (.tail t) s =
        ((s.dropPermit t).modTable t fun y =>
          { y with state := if y.state = .headError then .headError else if y.queue = [] then .idle else .queued },
         [.eval])) ∧
    (¬yields → s.lingerDue t = false → ¬stops → Work.perform (.tail t) s = (s, []))) ∧
  ∀ s : State, Work.perform .eval s = State.scan s.hold s ∧ s.perform [] = s ∧
    ∀ (fuel : Nat) (w : Work) (ws : List Work),
      settle (fuel + 1) (w :: ws) s = settle fuel ((w.perform s).2 ++ ws) (w.perform s).1) ∧
  (∀ (s : State) (cause : StopCause),
    let emptied := s.hold.foldl State.stopEntry { s with runState := .stopping, stopCause := cause }
    s.enterStopping cause =
      (([0, 1, 2, 3, 4, 5] : List (Fin 6)).foldl State.endYield { emptied with hold := [] }).perform
        [.tail 0, .tail 1, .tail 2, .tail 3, .tail 4, .tail 5]) ∧
  (∀ (s : State) (e : HoldEntry),
    let left := { s with hold := s.hold.filter fun x => x.unit ≠ e.unit }
    (∀ c op copy, e.unit = .crane c → (s.crane c).slot = .held op copy →
      s.stopEntry e = ((left.withdraw c).1.answerOp op .refused (some .stopping)).modCrane c fun k =>
        { k with slot := .empty }) ∧
    (∀ c, e.unit = .crane c → (∀ op copy, (s.crane c).slot ≠ .held op copy) → s.stopEntry e = s) ∧
    ∀ t, e.unit = .table t → s.stopEntry e = left.modTable t fun x => { x with state := .queued, stall := 0 }) ∧
  (∀ (s : State) (t : Fin 6), s.endYield t =
    if (s.table t).state = .yielding then
      s.modTable t fun x => { x with state := .active, stall := 0, stallSent := false }
    else s) ∧
  (∀ (r : Req) (s : State), s.Takes r → s.runState = .running →
    exec (.stop r) s = .next (s.tagged (State.finish ((s.enterStopping .stop).reply r 0x0804#16 done))) ∧
    (∀ c op copy, (s.crane c).slot = .held op copy → (∃ e ∈ s.hold, e.unit = .crane c) →
      ((s.enterStopping .stop).reply r 0x0804#16 done).finish.crane c = { s.crane c with slot := .empty }) ∧
    ∀ t : Fin 6, (∃ e ∈ s.hold, e.unit = .table t) →
      (((s.enterStopping .stop).reply r 0x0804#16 done).finish.table t).state = .queued) ∧
  ∀ s : State,
    (s.workDone = true ↔ (∀ c : Fin 4, (s.crane c).slot = .empty) ∧ ∀ t : Fin 6, (s.table t).permit = false) ∧
    let stepped := if s.stepFlag = true ∧ s.stepConsumed = true ∧ s.runState = .running then
        State.enterStopping { s with stepDone := true } .stepDone
      else s
    let halted := if stepped.runState = .stopping ∧ stepped.workDone = true then
        { stepped with runState := .halted, started := false,
                       stations := stepped.stations.map fun n => { n with polled := false } }
      else stepped
    s.finish = { halted with tables := s.finish.tables } ∧
    ∀ t : Fin 6, s.finish.table t =
      { halted.table t with
          stall := if halted.stallCounts t = true then (halted.table t).stall else 0,
          linger := if halted.lingerCounts t = true then (halted.table t).linger else 0 }

/-- CYCLE.SET and SCHED.SET. CYCLE.SET writes the trim, held within −50 to +50, and returns it; the running cycle
keeps its own. SCHED.SET: NOT_FOUND above entry 31, BAD_VALUE for more than 6 stations, one outside 1 to 63 or equal
to the own number, or one named twice; else the list is written. (R169, R170) -/
def Obligations.CycleSetAndSchedSetWrite : Prop :=
  (∀ (r : Req) (trim : Int) (s : State), s.Takes r →
    let held := if trim < -50 then -50 else if 50 < trim then 50 else trim
    exec (.cycleSet r trim) s =
      .next (State.reply { s with trim := held } r 0x0805#16 (done [BitVec.ofInt 8 held]))) ∧
  (∀ (r : Req) (n : Nat) (list : List Nat) (s : State), s.Takes r → 32 ≤ n →
    exec (.schedSet r n list) s = .next (s.reply r 0x0806#16 (refusal .notFound))) ∧
  ∀ (r : Req) (e : Fin 32) (list : List Nat) (s : State), s.Takes r →
    (¬(list.length ≤ 6 ∧ (∀ n ∈ list, 1 ≤ n ∧ n ≤ 63 ∧ n ≠ s.ownStation) ∧ list.Nodup) →
      exec (.schedSet r e.val list) s = .next (s.reply r 0x0806#16 (refusal .badValue))) ∧
    (list.length ≤ 6 → (∀ n ∈ list, 1 ≤ n ∧ n ≤ 63 ∧ n ≠ s.ownStation) → list.Nodup →
      ∃ u : State, exec (.schedSet r e.val list) s = .next (u.reply r 0x0806#16 done) ∧
        u = { s with schedule := u.schedule } ∧
        ∀ x : Fin 32, u.scheduleEntry x = if x = e then list else s.scheduleEntry x)

/-- PORT.ENABLE, PORT.DISABLE and PORT.ACK. PORT.ENABLE of U changes nothing, of F is BUSY while its link is DOWN and
enables it otherwise; PORT.DISABLE of U is BAD_VALUE, of F BUSY outside HALTED; PORT.ACK clears the link-change flag
of the port named, for F the enable-change flag too, or both ports'. Any other port value is BAD_VALUE. The reply is
formed after the act, so that a PORT.DISABLE of F that came through Port F loses it (notes/assumptions/7.md). (R177,
R178, R179, R202) -/
def Obligations.PortRequestsWrite : Prop :=
  (∀ (r : Req) (n : Nat) (s : State), s.Takes r → 2 ≤ n →
    exec (.portEnable r n) s = .next (s.reply r 0x0901#16 (refusal .badValue)) ∧
    exec (.portDisable r n) s = .next (s.reply r 0x0902#16 (refusal .badValue)) ∧
    exec (.portAck r (.one n)) s = .next (s.reply r 0x0903#16 (refusal .badValue))) ∧
  ∀ (r : Req) (s : State), s.Takes r →
    exec (.portEnable r 0) s = .next (s.reply r 0x0901#16 done) ∧
    exec (.portEnable r 1) s =
      (if s.linkF = true then .next (s.tagged (State.reply { s with enableF := true } r 0x0901#16 done))
       else .next (s.reply r 0x0901#16 (refusal .busy))) ∧
    exec (.portDisable r 0) s = .next (s.reply r 0x0902#16 (refusal .badValue)) ∧
    exec (.portDisable r 1) s =
      (if s.runState = .halted then .next (s.tagged (State.reply { s with enableF := false } r 0x0902#16 done))
       else .next (s.reply r 0x0902#16 (refusal .busy))) ∧
    exec (.portAck r (.one 0)) s =
      .next (s.tagged (State.reply { s with linkChangeU := false } r 0x0903#16 done)) ∧
    exec (.portAck r (.one 1)) s =
      .next (s.tagged (State.reply { s with linkChangeF := false, enableChangeF := false } r 0x0903#16 done)) ∧
    exec (.portAck r .all) s =
      .next (s.tagged (State.reply { s with linkChangeU := false, linkChangeF := false, enableChangeF := false }
        r 0x0903#16 done))

/-- DEVICE.SET: its checks in order, and what it writes. BAD_VALUE for a value out of its range; BUSY for a change of
the own number outside HALTED; IN_USE for an own number that a station record or a schedule entry names. Otherwise the
three settings are written and returned; where a report station is set that was none, the frames of the classes
pending, unsent and unmasked are sent first. That the reply follows those frames is the model's reading
(notes/assumptions/7.md). (R195, R198) -/
def Obligations.DeviceSetWrites : Prop :=
  ∀ (r : Req) (own : Nat) (report : Option Nat) (policy : Nat) (s : State), s.Takes r →
    let good := policy ≤ 1 ∧ (1 ≤ own ∧ own ≤ 63) ∧ ∀ n ∈ report, 1 ≤ n ∧ n ≤ 63 ∧ n ≠ own
    let p : Policy := if policy = 0 then .forward else .drop
    let written := { s with ownStation := own, report := report, policy := p }
    let data := put8 own ++ putOption put8 report ++ put8 p.code
    (¬good → exec (.deviceSet r own report policy) s = .next (s.reply r 0x0A01#16 (refusal .badValue))) ∧
    (good → own ≠ s.ownStation → s.runState ≠ .halted →
      exec (.deviceSet r own report policy) s = .next (s.reply r 0x0A01#16 (refusal .busy))) ∧
    (good → own ≠ s.ownStation → s.runState = .halted →
      (s.station own).kind ≠ .none ∨ (∃ e : Fin 32, own ∈ s.scheduleEntry e) →
      exec (.deviceSet r own report policy) s = .next (s.reply r 0x0A01#16 (refusal .inUse))) ∧
    (good → own = s.ownStation ∨ (s.runState = .halted ∧ (s.station own).kind = .none ∧
        ∀ e : Fin 32, own ∉ s.scheduleEntry e) →
      exec (.deviceSet r own report policy) s = .next (State.reply
        (if s.report = none ∧ report ≠ none then written.sendUnsent [.guard, .fault, .flow, .refusal, .wear]
         else written)
        r 0x0A01#16 (done data)))

/-- An occurrence of a notice class, NOTICE.MASK and NOTICE.ACK. NOTICE.MASK masks exactly the classes named but never
GUARD and returns the mask; each class that was masked, is now unmasked, and is pending and unsent is sent where a
report station is set: one NOTICE frame each, highest priority first, under the next values of the origin counter
(notes/assumptions/27.md), out of Port U where its link is UP, the class no longer unsent. Nothing else changes.
NOTICE.ACK clears pending, unsent and count of the classes named and keeps their last details; its status tag counts
the pending flags it clears. NOTICE frames before the reply: notes/assumptions/7.md. An occurrence writes the last
detail and raises the count, to at most 255; a class not pending becomes pending, unsent where it is masked or no
report station is set; unmasked, it takes the next value of the origin counter, without a report station too
(notes/assumptions/28.md), and with one its NOTICE frame leaves Port U where the link is UP. A pending class sends
nothing and keeps its unsent flag. Nothing else changes. (R184, R187, R190, R197, R198, R199, R200, R202) -/
def Obligations.NoticeMaskAndAckWrite : Prop :=
  ((∀ (r : Req) (classes : Byte) (s : State), s.Takes r →
    let masked (k : NoticeClass) := decide (k ≠ .guard) && classes.getLsbD k.index.val
    let due : List NoticeClass := if s.report = none then []
      else [NoticeClass.guard, .fault, .flow, .refusal, .wear].filter fun k =>
        (s.notice k).masked && !masked k && (s.notice k).pending && (s.notice k).unsent
    let frames : List Sent := due.zipIdx.map fun x =>
      .hall (s.ownFrame 0x32#8 (BitVec.ofNat 8 (s.report.getD 0)) (s.origin + 1 + BitVec.ofNat 16 x.2)
        (noticePayload x.1 (s.notice x.1)))
    ∃ u : State, exec (.noticeMask r classes) s =
        .next (u.reply r 0x0A04#16 (done [u.classSet Notice.masked])) ∧
      u = { s with notices := u.notices, origin := s.origin + BitVec.ofNat 16 due.length,
                   sentU := s.sentU ++ (if s.linkU = true then frames else []) } ∧
      ∀ k ∈ [NoticeClass.guard, .fault, .flow, .refusal, .wear], u.notice k =
        { s.notice k with masked := masked k, unsent := (s.notice k).unsent && !due.contains k }) ∧
  ∀ (r : Req) (classes : Byte) (s : State), s.Takes r →
    ∃ u : State, exec (.noticeAck r classes) s = .next (s.tagged (u.reply r 0x0A05#16 done)) ∧
      u = { s with notices := u.notices } ∧
      ∀ k ∈ [NoticeClass.guard, .fault, .flow, .refusal, .wear], u.notice k =
        if classes.getLsbD k.index.val = true then
          { s.notice k with pending := false, unsent := false, count := 0 }
        else s.notice k) ∧
  (∀ (s : State) (k : NoticeClass) (code unit : Nat) (value : Int),
    let n := s.notice k
    let count := min 255 (n.count + 1)
    let formed := n.pending = false ∧ n.masked = false
    let frame (station : Nat) : Sent := .hall
      { ethDst := 0xFFFFFFFFFFFF#48, ethSrc := Config.ethernetAddress, version := 1#8, kind := 0x32#8,
        dst := BitVec.ofNat 8 station, src := BitVec.ofNat 8 s.ownStation, seq := s.origin + 1,
        payload := put8 (match k with | .guard => 1 | .fault => 2 | .flow => 3 | .refusal => 4 | .wear => 5) ++
          put8 code ++ put8 unit ++
          (match k with
           | .wear => putNat32 value.toNat
           | .guard | .fault | .flow | .refusal => putInt32 value) ++ put8 count }
    let sent : List Sent := match s.report with
      | none => []
      | some station => if n.pending = false ∧ n.masked = false ∧ s.linkU = true then [frame station] else []
    let u := s.raise k code unit value
    u = { s with notices := u.notices, origin := if formed then s.origin + 1 else s.origin,
                 sentU := s.sentU ++ sent } ∧
    (∀ j : NoticeClass, j ≠ k → u.notice j = s.notice j) ∧
    u.notice k = { pending := true, unsent := if n.pending = true then n.unsent else n.masked || s.report.isNone,
                   masked := n.masked, count := count, detail := some ⟨code, unit, value⟩ }) ∧
  ∀ (k : NoticeClass) (n : Notice), noticePayload k n =
    put8 (match k with | .guard => 1 | .fault => 2 | .flow => 3 | .refusal => 4 | .wear => 5) ++
      (match n.detail with
       | none => put8 0 ++ put8 0 ++ [0#8, 0#8, 0#8, 0#8]
       | some d => put8 d.code ++ put8 d.unit ++ (match k with
         | .wear => putNat32 d.value.toNat
         | .guard | .fault | .flow | .refusal => putInt32 d.value)) ++ put8 n.count

/-- RESET FULL and RESET RUNTIME. A scope above 1 is BAD_VALUE, a RESET outside HALTED BUSY. Otherwise the reset count
rises by one to at most 255, the reply goes out first, and every block takes its values: FULL the power-on values but
for link states, loss count and reset count; RUNTIME keeps configuration, stock, geometry, cycle number and the wear
counts and clears the rest, the plates in cut being returned in ascending order of table, each AVAILABLE and partly
cut with its RETURNED frame. The scope byte decides whichever of the two commands carries it. That the scope decides
is the model's choice (notes/assumptions/44.md), what FULL keeps its reading (notes/assumptions/45.md); transcripts
and queue are the model's own (notes/assumptions/5.md). (Resets, R16, R34, R63, R91, R123, R140, R157, R176, R204,
R205, R206) -/
def Obligations.ResetsClearTheBlocks : Prop :=
  (∀ (r : Req) (s : State), s.Takes r →
    (∀ scope, 2 ≤ scope → exec (.resetFull r scope) s = .next (s.reply r 0x0A07#16 (refusal .badValue)) ∧
      exec (.resetRuntime r scope) s = .next (s.reply r 0x0A07#16 (refusal .badValue))) ∧
    (∀ scope ≤ 1, s.runState ≠ .halted → exec (.resetFull r scope) s = .next (s.reply r 0x0A07#16 (refusal .busy)) ∧
      exec (.resetRuntime r scope) s = .next (s.reply r 0x0A07#16 (refusal .busy))) ∧
    (s.runState = .halted →
      let count := min 255 (s.resetCount + 1)
      let u (scope : Nat) :=
        State.reply { s with resetCount := count } r 0x0A07#16 (done (put8 scope ++ put8 count))
      let full : State :=
        { State.reset with linkU := s.linkU, linkF := s.linkF, resetCount := count, lossCount := s.lossCount,
                           sentU := (u 0).sentU, sentF := (u 0).sentF, pending := s.pending }
      exec (.resetFull r 0) s = .next full ∧ exec (.resetRuntime r 0) s = .next full ∧
      ∃ v : State,
          let returned := ([0, 1, 2, 3, 4, 5] : List (Fin 6)).foldl (fun x t => x.returnPlate (s.table t).plate) v
          exec (.resetRuntime r 1) s = .next returned ∧ exec (.resetFull r 1) s = .next returned ∧
          v = { u 1 with zones := v.zones, channels := v.channels, cranes := v.cranes, hold := [], tables := v.tables,
                         arcs := v.arcs, markers := v.markers, stations := v.stations, started := false,
                         notices := v.notices, statusTag := 0 } ∧
          (∀ z < 128, v.zone z = { s.zone z with claim := none, permit := none, conflict := false }) ∧
          (∀ a : Fin 12, v.channel a =
            { mode := (s.channel a).mode, depth := (s.channel a).depth, reference := (s.channel a).reference,
              tolerance := (s.channel a).tolerance, pitch := (s.channel a).pitch }) ∧
          (∀ c : Fin 4, v.crane c = { config := (s.crane c).config, load := (s.crane c).load }) ∧
          (∀ t : Fin 6, v.table t = { config := (s.table t).config } ∧
            v.arc t = { lastEdge := s.cycle, base := s.cycle, wearPierces := (s.arc t).wearPierces,
                        wearArc := (s.arc t).wearArc, piercesReported := (s.arc t).piercesReported,
                        arcReported := (s.arc t).arcReported }) ∧
          (∀ m : Fin 4, v.marker m =
            { lookAhead := (s.marker m).lookAhead, edgeMargin := (s.marker m).edgeMargin }) ∧
          (∀ n < 64, v.station n =
            { s.station n with freshness := .never, misses := 0, polled := false, silent := false }) ∧
          ∀ k ∈ noticeClasses, v.notice k = {})) ∧
  ∀ s : State, s.returnPlate none = s ∧ ∀ id : Nat,
    (s.piece id = none → s.returnPlate (some id) = s) ∧
    ∀ p, s.piece id = some p →
      let q := { p with lifecycle := .available, partlyCut := true, revision := p.revision + 1, changed := true }
      s.returnPlate (some id) = (s.writePiece id q).stockFrame .returned 0 q

/-- BAD_REQUEST. An MGMT_REQ whose code is unknown, or which is too short for its code or its arguments, is answered
BAD_REQUEST under the code as it arrived, and changes nothing else; from a source that may not manage it is answered
DENIED, with code 0 where it holds none. The code of a BAD_REQUEST reply to a payload too short to hold one is a free
value (notes/assumptions/2.md). (R180, R181, R191, R192, R193) -/
def Obligations.BadRequestIsAnswered : Prop :=
  (∀ (r : Req) (payload : List Byte) (s : State), s.powered = true → s.Settled → s.portTakes r.port = true →
    s.sourceGood r.src = true →
    (s.mayManage r = true → badRequestPayload payload = true →
      exec (.badRequest r payload) s = .next (s.reply r
        (match payload with
         | b1 :: b0 :: _ => b1 ++ b0
         | _ => Config.shortRequestCode payload)
        (refusal .badRequest))) ∧
    (s.mayManage r = false →
      exec (.badRequest r payload) s = .next (s.reply r
        (match payload with
         | b1 :: b0 :: _ => b1 ++ b0
         | _ => 0#16)
        (refusal .denied)))) ∧
  ∀ (s : State) (r : Req),
    (s.mayManage r = true ↔
      (∃ n < 64, (s.station n).manage = true) ∧ (s.station r.src.toNat).kind = .source ∧
          (s.station r.src.toNat).manage = true ∨
        (∀ n < 64, (s.station n).manage = false) ∧ r.port = .u) ∧
    (s.portTakes r.port = true ↔ r.port = .u ∨ s.enableF = true) ∧
    (s.sourceGood r.src = true ↔ 1 ≤ r.src.toNat ∧ r.src.toNat ≤ 63 ∧ r.src.toNat ≠ s.ownStation)

/-- FOREIGN_FRAME and FRAME_DROPPED. A foreign frame goes out of the other port unchanged where Port F is ENABLED and
both links are UP, and is dropped elsewhere. A frame whose check sequence is bad, which arrives at a disabled Port F,
which is too short for a header or its payload length, whose destination passes 63 or whose source is 0, above 63 or
the own number, or whose kind only the controller sends, changes nothing. So is a frame for the own number of a
version other than 1, and one of a kind other than SAMPLE and MGMT_REQ. A SAMPLE whose source is no unit's station, or
whose payload has not the form of its source's kind, changes nothing, and is copied out of Port U where its source's
mirror flag is set. That the copy leaves out the padding beyond the stated payload length is the model's reading
(notes/assumptions/37.md). (R164, R180, R181, R182, R188) -/
def Obligations.ForeignAndBadFramesPassOrDrop : Prop :=
  ((∀ (p : Port) (etherType : Half) (ethDst ethSrc : EthAddr) (bytes : List Byte) (s : State), s.powered = true →
    s.Settled → etherType ≠ 0x88B6#16 →
    exec (.foreignFrame p etherType ethDst ethSrc bytes) s = .next
      (if s.enableF = true ∧ s.linkU = true ∧ s.linkF = true then
        match p with
        | .u => { s with sentF := s.sentF ++ [.foreign etherType ethDst ethSrc bytes] }
        | .f => { s with sentU := s.sentU ++ [.foreign etherType ethDst ethSrc bytes] }
       else s)) ∧
  (∀ (raw : RawFrame) (s : State), s.powered = true → s.Settled →
    raw.fcsGood = false ∨ (raw.port = .f ∧ s.enableF = false) → exec (.frameDropped raw) s = .next s) ∧
  (∀ (raw : RawFrame) (s : State), s.powered = true → s.Settled → raw.etherType = 0x88B6#16 → raw.bytes.length < 8 →
    exec (.frameDropped raw) s = .next s) ∧
  ∀ (raw : RawFrame) (version kind dst src q1 q0 n1 n0 : Byte) (rest : List Byte) (s : State), s.powered = true →
    s.Settled → raw.etherType = 0x88B6#16 →
    raw.bytes = version :: kind :: dst :: src :: q1 :: q0 :: n1 :: n0 :: rest →
    rest.length < n1.toNat * 256 + n0.toNat ∨ 63 < dst.toNat ∨ src.toNat = 0 ∨ 63 < src.toNat ∨
      src.toNat = s.ownStation ∨ kind = 0x01#8 ∨ kind = 0x02#8 ∨ kind = 0x21#8 →
    exec (.frameDropped raw) s = .next s) ∧
  (∀ (raw : RawFrame) (version kind dst src q1 q0 n1 n0 : Byte) (rest : List Byte) (s : State), s.powered = true →
    s.Settled → raw.etherType = 0x88B6#16 →
    raw.bytes = version :: kind :: dst :: src :: q1 :: q0 :: n1 :: n0 :: rest → dst.toNat = s.ownStation →
    let n := n1.toNat * 256 + n0.toNat
    (version ≠ 1#8 ∨ (kind ≠ 0x03#8 ∧ kind ≠ 0x40#8) → exec (.frameDropped raw) s = .next s) ∧
    (version = 1#8 → kind = 0x03#8 → raw.fcsGood = true → s.portTakes raw.port = true → dst.toNat ≤ 63 →
      s.sourceGood src = true → n ≤ rest.length →
      let payload := rest.take n
      let formed := (∃ c : Fin 4, (s.station src.toNat).kind = .crane c) ∧ payload.length = 3 ∨
        (∃ t : Fin 6, (s.station src.toNat).kind = .table t) ∧ payload.length = 2 ∨
        (∃ m : Fin 4, (s.station src.toNat).kind = .marker m) ∧ ∃ b0 b1 b2 b3 : Byte,
          payload = [b0, b1, b2, b3] ∧ b3.toNat ≤ 16
      ¬formed → exec (.frameDropped raw) s = .next
        (if (s.station src.toNat).mirror = true then
          s.transmit .u (.hall ⟨raw.ethDst, raw.ethSrc, 1#8, 0x03#8, dst, src, q1 ++ q0, payload⟩)
         else s))) ∧
  ∀ (h : Header) (b0 b1 b2 b3 : Byte) (s : State), s.Hears h → h.dst.toNat = s.ownStation →
    let copied (payload : List Byte) : Host.Outcome State Fault Refusal := .next
      (if (s.station h.src.toNat).mirror = true then
        s.transmit .u (.hall ⟨h.ethDst, h.ethSrc, h.version, 0x03#8, h.dst, h.src, h.seq, payload⟩)
       else s)
    ((∀ c, (s.station h.src.toNat).kind ≠ .crane c) → exec (.craneSample h b0 b1 b2) s = copied [b0, b1, b2]) ∧
    ((∀ t, (s.station h.src.toNat).kind ≠ .table t) → exec (.tableSample h b0 b1) s = copied [b0, b1]) ∧
    ((∀ m, (s.station h.src.toNat).kind ≠ .marker m) → exec (.markerSample h b0 b1 b2 b3) s = copied [b0, b1, b2, b3])

/-- HALL_FRAME_FORWARD. A hall frame for another station, of a kind that is not the controller's own, leaves by the
destination's side where its record has a kind, by the other port or not at all as the unlisted policy says where it
has none, never by the port it came in on, and only through an open port; every byte stays. So go all frames of a
version other than 1, those for destination 0 and of the gated kinds among them; with version 1, those of no gated
kind, and an ARREST for a station that is no unit. With version 1, a crane command for a station that is no crane and
a SEG for one that is no table change nothing; an ARREST for a marker head goes out of Port F
(notes/assumptions/50.md); a broadcast goes out of the other port. (R182, R183, R184) -/
def Obligations.HallFramesForwardUnchanged : Prop :=
  (∀ (h : Header) (kind : Byte) (payload : List Byte) (s : State), s.powered = true → s.Settled →
    s.portTakes h.port = true → h.dst.toNat ≤ 63 → s.sourceGood h.src = true →
    h.dst.toNat ≠ s.ownStation → kind ∉ [0x01#8, 0x02#8, 0x21#8] →
    (h.version = 1#8 → 1 ≤ h.dst.toNat ∧ kind ∉ [0x10#8, 0x11#8, 0x12#8, 0x20#8] ∧
      (kind = 0x13#8 → (s.station h.dst.toNat).kind.isBound = false)) →
    exec (.hallFrameForward h kind payload) s = .next
      (let out : Option Port :=
        if (s.station h.dst.toNat).kind ≠ .none then
          some (match (s.station h.dst.toNat).side with | .field => .f | .upstream => .u)
        else match s.policy, h.port with
          | .drop, _ => none
          | .forward, .u => some .f
          | .forward, .f => some .u
       let frame : Sent := .hall ⟨h.ethDst, h.ethSrc, h.version, kind, h.dst, h.src, h.seq, payload⟩
       if out = some .u ∧ h.port = .f ∧ s.linkU = true then { s with sentU := s.sentU ++ [frame] }
       else if out = some .f ∧ h.port = .u ∧ s.enableF = true ∧ s.linkF = true then
         { s with sentF := s.sentF ++ [frame] }
       else s)) ∧
  (∀ (h : Header) (kind : Byte) (payload : List Byte) (s : State), s.Hears h → 1 ≤ h.dst.toNat →
    h.dst.toNat ≠ s.ownStation →
    (kind ∈ [0x10#8, 0x11#8, 0x12#8] → (∀ c, (s.station h.dst.toNat).kind ≠ .crane c) →
      exec (.hallFrameForward h kind payload) s = .next s) ∧
    (kind = 0x20#8 → (∀ t, (s.station h.dst.toNat).kind ≠ .table t) →
      exec (.hallFrameForward h kind payload) s = .next s) ∧
    ∀ m, kind = 0x13#8 → (s.station h.dst.toNat).kind = .marker m →
      exec (.hallFrameForward h kind payload) s = .next
        (s.transmit .f (.hall ⟨h.ethDst, h.ethSrc, h.version, kind, h.dst, h.src, h.seq, payload⟩))) ∧
  ∀ (h : Header) (kind : Byte) (payload : List Byte) (s : State), s.Hears h → h.dst = 0#8 → s.ownStation ≠ 0 →
    kind ∉ [0x01#8, 0x02#8, 0x21#8] →
    exec (.hallFrameForward h kind payload) s = .next
      (let frame : Sent := .hall ⟨h.ethDst, h.ethSrc, h.version, kind, h.dst, h.src, h.seq, payload⟩
       match h.port with
       | .u => if s.enableF = true ∧ s.linkF = true then { s with sentF := s.sentF ++ [frame] } else s
       | .f => if s.linkU = true then { s with sentU := s.sentU ++ [frame] } else s)

/-- MOVE, LIFT and LOWER admitted. In RUNNING without the step flag, for a crane with an EMPTY slot and a valid
position, from a SOURCE: where the required set (the sweep of a MOVE, the footprint of a LIFT with its radius, none
for a LOWER) is free and the operation's own checks pass, the set becomes the crane's claim, the frame leaves on Port
F unchanged, and the slot holds the operation IN_FLIGHT, entered this cycle; no ANSWER is sent and nothing else
changes. With the step flag set the admission also consumes the step: run state STOPPING, stop cause STEP_DONE, step-
consumed and step-done set, the Hold List empty, the slot IN_FLIGHT; what else entry to STOPPING does is that of the
end of the event. (R12, R13, R43, R44, R45, R46, R174) -/
def Obligations.FreeCraneCommandsAreAdmitted : Prop :=
  (∀ (h : Header) (c : Fin 4) (payload : List Byte) (s : State),
    s.Delivers h (.crane c) → s.runState = .running → s.stepFlag = false →
    (s.station h.src.toNat).kind = .source → s.craneValid c = true → (s.crane c).slot = .empty →
    let record (op : Operation) : OpRecord :=
      { operation := op, source := h.src, seq := h.seq, port := h.port, entry := s.cycle, moved := false }
    let admitted (kind : Byte) (op : Operation) (g : List Nat) : State :=
      ((s.takeClaims c g).transmit .f
        (.hall ⟨h.ethDst, h.ethSrc, h.version, kind, h.dst, h.src, h.seq, payload⟩)).modCrane c fun k =>
        { k with slot := .inFlight (record op) }
    (∀ tb tt, operationOf kindMove payload = some (.move tb tt) →
      s.classify c (s.sweep c (s.loadRadius c) tb tt) = .free →
      exec (.move h payload) s =
        .next (admitted 0x10#8 (.move tb tt) (s.sweep c (s.loadRadius c) tb tt))) ∧
    (∀ id carried, operationOf kindLift payload = some (.lift id carried) → (s.crane c).moving = false →
      s.liftCheck c id = none →
      s.classify c (s.footprint c (s.liftRadius id carried)) = .free →
      exec (.lift h payload) s =
        .next (admitted 0x11#8 (.lift id (s.liftRadius id carried)) (s.footprint c (s.liftRadius id carried)))) ∧
    ((s.crane c).moving = false → s.lowerCheck c = none →
      exec (.lower h payload) s = .next (admitted 0x12#8 .lower []))) ∧
  ∀ (h : Header) (c : Fin 4) (payload : List Byte) (s : State),
    s.Delivers h (.crane c) → s.runState = .running → s.stepFlag = true →
    (s.station h.src.toNat).kind = .source → s.craneValid c = true → (s.crane c).slot = .empty →
    let record (op : Operation) : OpRecord :=
      { operation := op, source := h.src, seq := h.seq, port := h.port, entry := s.cycle, moved := false }
    let admitted (kind : Byte) (op : Operation) (g : List Nat) : State :=
      { ((s.takeClaims c g).transmit .f
          (.hall ⟨h.ethDst, h.ethSrc, h.version, kind, h.dst, h.src, h.seq, payload⟩)).modCrane c fun k =>
          { k with slot := .inFlight (record op) } with stepConsumed := true }
    let stepped (i : Instr) (kind : Byte) (op : Operation) (g : List Nat) := ∃ t : State,
      exec i s = .next t ∧ t = s.tagged (admitted kind op g).finish ∧ t.runState = .stopping ∧ t.stopCause = .stepDone ∧
      t.stepConsumed = true ∧ t.stepDone = true ∧ t.hold = [] ∧ (t.crane c).slot = .inFlight (record op)
    (∀ tb tt, operationOf kindMove payload = some (.move tb tt) →
      s.classify c (s.sweep c (s.loadRadius c) tb tt) = .free →
      stepped (.move h payload) 0x10#8 (.move tb tt) (s.sweep c (s.loadRadius c) tb tt)) ∧
    (∀ id carried, operationOf kindLift payload = some (.lift id carried) → (s.crane c).moving = false →
      s.liftCheck c id = none →
      s.classify c (s.footprint c (s.liftRadius id carried)) = .free →
      stepped (.lift h payload) 0x11#8 (.lift id (s.liftRadius id carried))
        (s.footprint c (s.liftRadius id carried))) ∧
    ((s.crane c).moving = false → s.lowerCheck c = none → stepped (.lower h payload) 0x12#8 .lower [])

/-- MOVE, LIFT and LOWER refused or held. For a crane's station: a payload too short for its kind is dropped. The
first failing check gives the reason of one ANSWER REFUSED under the frame's sequence and one REFUSAL notice, in that
order (notes/assumptions/35.md), and nothing else changes: NOT_RUNNING, STOPPING, SOURCE_UNKNOWN, POSITION_UNKNOWN,
CRANE_BUSY, NOT_STILL for LIFT and LOWER, their own checks, KEEP_OUT. A required set that is held puts the crane HELD
at the tail of the Hold List with the whole frame and one ANSWER HELD; it joins the requester set of each table that
may yield and holds a permit in the set, and each of those tables whose set was empty takes it as an act: an ACTIVE
one with entries in flight becomes YIELDING (in ascending order of table: notes/assumptions/48.md). A set is KEEP_OUT
with an unusable zone in it, else HELD with a zone that another crane claims or a permit covers, else free. A LIFT is
refused with LOAD_PRESENT, PIECE_UNKNOWN, PIECE_NOT_HERE, PIECE_IN_CUT or NOT_MARKED, the first that applies, a LIFT
of piece ID 0 with LOAD_PRESENT alone; a LOWER with NO_LOAD, ZONE_FULL, TABLE_OCCUPIED or ZONE_UNUSABLE by the use of
its hook zone. (R12, R14, R15, R43, R44, R45, R46, R97, R104, R106, R174, R187) -/
def Obligations.OtherCraneCommandsAreRefusedOrHeld : Prop :=
  ((∀ (h : Header) (c : Fin 4) (payload : List Byte) (s : State), s.Delivers h (.crane c) →
    ∀ x ∈ [(Instr.move h payload, 0x10#8), (Instr.lift h payload, 0x11#8), (Instr.lower h payload, 0x12#8)],
    (operationOf x.2 payload = none → exec x.1 s = .next s) ∧
    ∀ carried, operationOf x.2 payload = some carried →
    let op := s.withRadius carried
    let record : OpRecord :=
      { operation := op, source := h.src, seq := h.seq, port := h.port, entry := s.cycle, moved := false }
    let copy : Frame := ⟨h.ethDst, h.ethSrc, h.version, x.2, h.dst, h.src, h.seq, payload⟩
    let sender := (s.station h.src.toNat).kind
    let refused (reason : Reason) := exec x.1 s = .next (s.tagged
      ((s.answer x.2 h.src h.seq h.port .refused (some reason)).raise .refusal reason.code c.val h.src.toNat))
    (s.runState = .halted → refused .notRunning) ∧
    (s.runState = .stopping → refused .stopping) ∧
    (s.runState = .running → sender ≠ .source → refused .sourceUnknown) ∧
    (s.runState = .running → sender = .source → s.craneValid c = false → refused .positionUnknown) ∧
    (s.runState = .running → sender = .source → s.craneValid c = true →
      ((s.crane c).slot ≠ .empty → refused .craneBusy) ∧
      ((s.crane c).slot = .empty →
        (x.2 ≠ 0x10#8 → (s.crane c).moving = true → refused .notStill) ∧
        (∀ reason, x.2 = 0x11#8 → (s.crane c).moving = false →
          (∃ id r, carried = .lift id r ∧ s.liftCheck c id = some reason) →
          refused reason) ∧
        (∀ reason, x.2 = 0x12#8 → (s.crane c).moving = false → s.lowerCheck c = some reason → refused reason) ∧
        (s.ownCheck c op = none →
          (s.classify c (s.requirement c op) = .keepOut → refused .keepOut) ∧
          (s.classify c (s.requirement c op) = .held → (∀ t : Fin 6, s.joins c (s.requirement c op) t = false) →
            exec x.1 s = .next
              (((s.modCrane c fun k => { k with slot := .held record copy }).answer x.2 h.src h.seq h.port .held
                none).appendHold (.crane c))) ∧
          (s.classify c (s.requirement c op) = .held →
            let asked := (((s.modCrane c fun k => { k with slot := .held record copy }).answer x.2 h.src h.seq h.port
              .held none).appendHold (.crane c)).postYields c (s.requirement c op)
            exec x.1 s = .next (s.tagged (State.finish (asked.1.perform (asked.2.map .filled)))) ∧
            ∀ t : Fin 6, s.joins c (s.requirement c op) t = true →
              (∀ u : Fin 6, u ≠ t → s.joins c (s.requirement c op) u = false) → (s.table t).yielders = [] →
              (s.table t).state = .active → (s.table t).inFlight ≠ 0 →
              exec x.1 s = .next (asked.1.modTable t fun y => { y with state := .yielding, stall := 0 })))))) ∧
  ∀ (s : State) (c : Fin 4) (g : List Nat),
    let joins (t : Fin 6) := (s.table t).config.yieldAllowed = true ∧ (∃ z ∈ g, (s.zone z).permit = some t) ∧
      c ∉ (s.table t).yielders
    (∀ t : Fin 6, s.joins c g t = true ↔ joins t) ∧
    (s.postYields c g).1 = { s with tables := (s.postYields c g).1.tables } ∧
    (∀ t : Fin 6, (joins t → (s.postYields c g).1.table t =
        { s.table t with yielders :=
            ([0, 1, 2, 3] : List (Fin 4)).filter fun d => d = c ∨ d ∈ (s.table t).yielders }) ∧
      (¬joins t → (s.postYields c g).1.table t = s.table t)) ∧
    (s.postYields c g).2 =
      ([0, 1, 2, 3, 4, 5] : List (Fin 6)).filter fun t => s.joins c g t && (s.table t).yielders.isEmpty) ∧
  (∀ (s : State) (c : Fin 4) (g : List Nat),
    let unusable (z : Nat) := (s.zone z).use = .none ∨ (s.zone z).use = .keepOut
    let blocked (z : Nat) := (∃ d, d ≠ c ∧ (s.zone z).claim = some d) ∨ (s.zone z).permit ≠ none
    (s.classify c g = .keepOut ↔ ∃ z ∈ g, unusable z) ∧
    (s.classify c g = .held ↔ (∀ z ∈ g, ¬unusable z) ∧ ∃ z ∈ g, blocked z) ∧
    (s.classify c g = .free ↔ ∀ z ∈ g, ¬unusable z ∧ ¬blocked z)) ∧
  (∀ (s : State) (c : Fin 4) (id : Nat),
    let k := s.crane c
    let here (p : Piece) := ∃ h, s.hookZone c = some h ∧
      (p.location = .zone h ∨ ∃ t, (s.zone h).use = .table t ∧ p.location = .onTable t)
    let unmarked (p : Piece) := p.lifecycle = .awaitingMark ∧
      ∃ t, p.location = .onTable t ∧ (s.table t).config.markFirst = true
    (k.load ≠ .none → s.liftCheck c id = some .loadPresent) ∧
    (k.load = .none → id = 0 → s.liftCheck c id = none) ∧
    (k.load = .none → id ≠ 0 → s.piece id = none → s.liftCheck c id = some .pieceUnknown) ∧
    ∀ p, k.load = .none → id ≠ 0 → s.piece id = some p →
      (¬here p → s.liftCheck c id = some .pieceNotHere) ∧
      (here p → p.lifecycle = .inCut → s.liftCheck c id = some .pieceInCut) ∧
      (here p → p.lifecycle ≠ .inCut → unmarked p → s.liftCheck c id = some .notMarked) ∧
      (here p → p.lifecycle ≠ .inCut → ¬unmarked p → s.liftCheck c id = none)) ∧
  (∀ (s : State) (c : Fin 4),
    ((s.crane c).load = .none → s.lowerCheck c = some .noLoad) ∧
    ((s.crane c).load ≠ .none → s.hookZone c = none → s.lowerCheck c = some .zoneUnusable) ∧
    ∀ h, (s.crane c).load ≠ .none → s.hookZone c = some h →
      ((s.zone h).use = .floor ∨ (s.zone h).use = .rack →
        s.lowerCheck c = if (s.zone h).stored < (s.zone h).capacity then none else some .zoneFull) ∧
      (∀ t, (s.zone h).use = .table t →
        ((s.table t).state = .idle ∧ (∀ p ∈ s.stock, p.location ≠ .onTable t) → s.lowerCheck c = none) ∧
        (¬((s.table t).state = .idle ∧ ∀ p ∈ s.stock, p.location ≠ .onTable t) →
          s.lowerCheck c = some .tableOccupied)) ∧
      ((s.zone h).use = .aisle ∨ (s.zone h).use = .keepOut ∨ (s.zone h).use = .none →
        s.lowerCheck c = some .zoneUnusable)) ∧
  (∀ (s : State) (c : Fin 4),
    (∀ tb tt, s.ownCheck c (.move tb tt) = none ∧ s.withRadius (.move tb tt) = .move tb tt) ∧
    (∀ id radius, s.ownCheck c (.lift id radius) =
        (if (s.crane c).moving = true then some .notStill else s.liftCheck c id) ∧
      s.withRadius (.lift id radius) = .lift id (s.liftRadius id radius)) ∧
    s.ownCheck c .lower = (if (s.crane c).moving = true then some .notStill else s.lowerCheck c) ∧
    s.withRadius .lower = .lower) ∧
  ∀ payload : List Byte,
    operationOf 0x10#8 payload = (match payload with
      | b5 :: b4 :: b3 :: b2 :: b1 :: b0 :: _ =>
        some (.move (b5 ++ b4 ++ b3 : BitVec 24).toInt (b2 ++ b1 ++ b0 : BitVec 24).toInt)
      | _ => none) ∧
    operationOf 0x11#8 payload = (match payload with
      | b3 :: b2 :: b1 :: b0 :: _ => some (.lift (b3.toNat * 256 + b2.toNat) (b1.toNat * 256 + b0.toNat))
      | _ => none) ∧
    operationOf 0x12#8 payload = some .lower

/-- ARREST, and the ANSWER frame that gated frames get. An ARREST for a unit's station leaves on Port F unchanged,
whatever its source and the run state (for a marker head's station the model's choice, notes/assumptions/50.md); a
table unit takes no notice of it, and no more does a crane whose slot is EMPTY or IN_FLIGHT. A HELD crane leaves the
Hold List and every requester set with ANSWER REFUSED and then a REFUSAL notice (notes/assumptions/35.md), reason
CANCELLED, and its slot is EMPTY; each table whose set that empties then takes it as an act, in ascending order
(notes/assumptions/48.md), and in STOPPING the controller halts where nothing is left to do. An ANSWER carries kind
and sequence of the gated frame, verdict and reason code; it goes to the source under the gated frame's sequence, on
the source's side, or on the port the gated frame came in on where the source's kind is NONE; it leaves the port where
that is open, and nothing else changes. A frame under the origin counter takes its next value, whether or not its port
is open. That the value is the counter raised by one, and so 1 first after power-on, is the model's reading
(notes/assumptions/27.md). (R60, R86, R98, R105, R182, R183, R184, R185, R187, R190) -/
def Obligations.ArrestReachesTheUnit : Prop :=
  ((∀ (h : Header) (payload : List Byte) (s : State),
    let sent := s.transmit .f (.hall ⟨h.ethDst, h.ethSrc, h.version, 0x13#8, h.dst, h.src, h.seq, payload⟩)
    (∀ t : Fin 6, s.Delivers h (.table t) → exec (.arrest h payload) s = .next sent) ∧
    (∀ m : Fin 4, s.Delivers h (.marker m) → exec (.arrest h payload) s = .next sent) ∧
    ∀ c : Fin 4, s.Delivers h (.crane c) →
      ((∀ op copy, (s.crane c).slot ≠ .held op copy) → exec (.arrest h payload) s = .next sent) ∧
      ∀ op copy, (s.crane c).slot = .held op copy → s.runState ≠ .stopping →
        (∀ t : Fin 6, c ∉ (s.table t).yielders) →
        exec (.arrest h payload) s = .next (s.tagged
          (((State.answerOp { sent with hold := s.hold.filter fun e => e.unit ≠ .crane c } op .refused
            (some .cancelled)).raise .refusal 9 c.val op.source.toNat).modCrane c fun k => { k with slot := .empty }))) ∧
  (∀ (h : Header) (payload : List Byte) (s : State) (c : Fin 4) (op : OpRecord) (copy : Frame),
    s.Delivers h (.crane c) → (s.crane c).slot = .held op copy →
    let left := (s.transmit .f
      (.hall ⟨h.ethDst, h.ethSrc, h.version, 0x13#8, h.dst, h.src, h.seq, payload⟩)).dropHeld c .cancelled true
    exec (.arrest h payload) s = .next (s.tagged (State.finish (left.1.perform left.2)))) ∧
  (∀ (s : State) (c : Fin 4) (op : OpRecord) (copy : Frame) (reason : Reason), (s.crane c).slot = .held op copy →
    let freed := State.withdraw { s with hold := s.hold.filter fun e => e.unit ≠ .crane c } c
    let answered := freed.1.answerOp op .refused (some reason)
    s.dropHeld c reason true =
      ((answered.raise .refusal reason.code c.val op.source.toNat).modCrane c fun k => { k with slot := .empty },
       freed.2.map .emptied) ∧
    s.dropHeld c reason false = (answered.modCrane c fun k => { k with slot := .empty }, freed.2.map .emptied)) ∧
  ∀ (s : State) (c : Fin 4), (s.withdraw c).1 = { s with tables := (s.withdraw c).1.tables } ∧
    (∀ t : Fin 6, (s.withdraw c).1.table t =
      { s.table t with yielders := (s.table t).yielders.filter fun d => d ≠ c }) ∧
    (s.withdraw c).2 = ([0, 1, 2, 3, 4, 5] : List (Fin 6)).filter fun t =>
      (s.table t).yielders.contains c && (s.table t).yielders.all fun d => d == c) ∧
  (∀ (s : State) (kind src : Byte) (seq : Half) (arrival : Port) (verdict : Verdict) (reason : Option Reason),
    let frame : Sent := .hall
      { ethDst := 0xFFFFFFFFFFFF#48, ethSrc := Config.ethernetAddress, version := 1#8, kind := 0x30#8, dst := src,
        src := BitVec.ofNat 8 s.ownStation, seq := seq,
        payload := [kind] ++ put16 seq.toNat ++
          put8 (match verdict with | .held => 1 | .released => 2 | .refused => 3) ++
          put8 (match reason with | none => 0 | some x => x.code) }
    let port := if (s.station src.toNat).kind = .none then arrival
      else match (s.station src.toNat).side with | .field => .f | .upstream => .u
    s.answer kind src seq arrival verdict reason = match port with
      | .u => if s.linkU = true then { s with sentU := s.sentU ++ [frame] } else s
      | .f => if s.enableF = true ∧ s.linkF = true then { s with sentF := s.sentF ++ [frame] } else s) ∧
  ([Reason.notRunning, .stopping, .sourceUnknown, .positionUnknown, .craneBusy, .notStill, .keepOut, .holdExpired,
    .cancelled, .pieceUnknown, .pieceNotHere, .pieceInCut, .notMarked, .loadPresent, .noLoad, .zoneFull, .zoneUnusable,
    .tableOccupied, .queueFull].map Reason.code = List.range' 1 19) ∧
  (∀ (s : State) (op : OpRecord) (verdict : Verdict) (reason : Option Reason),
    s.answerOp op verdict reason = s.answer
      (match op.operation with | .move .. => 0x10#8 | .lift .. => 0x11#8 | .lower => 0x12#8)
      op.source op.seq op.port verdict reason) ∧
  ∀ (s : State) (x : Sent) (kind dst : Byte) (payload : List Byte),
    s.transmit .u x = (if s.linkU = true then { s with sentU := s.sentU ++ [x] } else s) ∧
    s.transmit .f x = (if s.enableF = true ∧ s.linkF = true then { s with sentF := s.sentF ++ [x] } else s) ∧
    ∀ p : Port, s.originate p kind dst payload = State.transmit { s with origin := s.origin + 1 } p (.hall
      { ethDst := 0xFFFFFFFFFFFF#48, ethSrc := Config.ethernetAddress, version := 1#8, kind := kind, dst := dst,
        src := BitVec.ofNat 8 s.ownStation, seq := s.origin + 1, payload := payload })

/-- SEG, and what head processing does with the entry at the head. For a table's station: a payload that runs short is
dropped; a source that is no SOURCE is answered REFUSED, SOURCE_UNKNOWN, with a REFUSAL notice; a full queue (24)
answered REFUSED, QUEUE_FULL, sets the overrun flag and raises QUEUE_OVERRUN, the ANSWER first
(notes/assumptions/35.md). Otherwise the entry is appended with its arrival marks, the expected segment is the next
one, the source is kept for REFILL, the stall timer restarts, an IDLE table becomes QUEUED. In RUNNING the head is
then processed, after a refused SEG too: in QUEUED, ACTIVE and YIELDING a marked head and a head that fails a check
(which marks it) put the table in HEAD_ERROR; a PLATE_BEGIN takes the piece in cut, a PLATE_END hands the plate to the
Stock Table, and the new head is examined; a QUEUED table requests its permit for any other head; an entry whose
conditions hold is released to its unit under its own source and sequence, and the new head is examined. A removal
that takes the queue just below the trigger sends one REFILL, before the released SEG (notes/assumptions/35.md). At a
PLATE_END the plate's record leaves with a CONSUMED frame carrying the scrap count; each rectangle in list order is
scrap, skipped with REMNANT_SKIPPED, or a remnant with its CREATED frame (the changed bit of CONSUMED:
notes/assumptions/54.md). A released MARK_LINE makes the line record and is fed at once, a MARK_TEXT the text record
with its SEG frame. A released SEG's payload is written anew from the entry's fields (notes/assumptions/37.md), and no
frame goes to a unit without a station (notes/assumptions/19.md), by the model's reading. The marks of an arriving
entry are SEQ_GAP, NO_MARKER and BAD_FIELDS, each where its fields call for it. (R71, R72, R73, R74, R75, R76, R77,
R78, R81, R130, R133, R158) -/
def Obligations.SegEntriesJoinTheQueue : Prop :=
  (((∀ (h : Header) (payload : List Byte) (t : Fin 6) (s : State), s.Delivers h (.table t) →
    (readSeg h.src h.seq payload = none → exec (.seg h payload) s = .next s) ∧
    ∀ x, readSeg h.src h.seq payload = some x →
      let unknown := (s.answer 0x20#8 h.src h.seq h.port .refused (some .sourceUnknown)).raise .refusal 3
        (0x10 + t.val) h.src.toNat
      let full := ((s.modTable t fun y => { y with overrun := true }).answer 0x20#8 h.src h.seq h.port .refused
        (some .queueFull)).raise .flow 1 (0x10 + t.val) x.entry.segment.toNat
      let resting := s.runState = .halted ∨ (s.runState = .running ∧
        ((s.table t).state = .idle ∨ (s.table t).state = .permitWait ∨ (s.table t).state = .fault))
      ((s.station h.src.toNat).kind ≠ .source →
        exec (.seg h payload) s = .next (s.tagged (unknown.perform [.act t]).finish) ∧
        (resting → exec (.seg h payload) s = .next (s.tagged unknown))) ∧
      ((s.station h.src.toNat).kind = .source → 24 ≤ (s.table t).queue.length →
        exec (.seg h payload) s = .next (s.tagged (full.perform [.act t]).finish) ∧
        (resting → exec (.seg h payload) s = .next (s.tagged full))) ∧
      ((s.station h.src.toNat).kind = .source → (s.table t).queue.length < 24 →
        let joined := s.modTable t fun y =>
          { y with
              queue := y.queue ++ [{ x.entry with marks := y.arrivalMarks x }],
              expected := some (x.entry.segment + 1), lastSource := some (h.src, h.port),
              state := if y.state = .idle then .queued else y.state, stall := 0, stallSent := false,
              markSummary := (y.queue ++ [{ x.entry with marks := y.arrivalMarks x }]).any fun e => !e.marks.isEmpty }
        (s.runState = .halted → exec (.seg h payload) s = .next joined) ∧
        exec (.seg h payload) s = .next (s.tagged (joined.perform [.act t]).finish))) ∧
  (∀ (s : State) (t : Fin 6),
    let x := s.table t
    (s.runState ≠ .running ∨ (x.state ≠ .queued ∧ x.state ≠ .active ∧ x.state ≠ .yielding) ∨ x.queue = [] →
      s.headProcess t = s) ∧
    ∀ e rest, s.runState = .running → x.state = .queued ∨ x.state = .active ∨ x.state = .yielding →
      x.queue = e :: rest →
      let errs (m : Mark) := (s.modTable t fun y =>
        { y with queue := { e with marks := [m] } :: rest, markSummary := true, state := .headError }).raise .flow 2
          (0x10 + t.val) e.segment.toNat
      let idled (u : State) := u.modTable t fun y =>
        { y with state := if y.state = .queued ∧ y.queue = [] then .idle else y.state }
      let waits := x.state = .yielding ∨ (x.state = .active ∧ 0 < x.inFlight)
      (e.marks ≠ [] → s.headProcess t =
        (s.modTable t fun y => { y with state := .headError }).raise .flow 2 (0x10 + t.val) e.segment.toNat) ∧
      (e.marks = [] → e.kind = .plateBegin ∨ e.kind = .plateEnd → waits → s.headProcess t = s) ∧
      (e.marks = [] → e.kind = .plateBegin → ¬waits →
        ((∀ p, s.piece e.piece = some p → p.location ≠ .onTable t) → s.headProcess t = errs .pieceNotHere) ∧
        ∀ p, s.piece e.piece = some p → p.location = .onTable t →
          (p.tag ≠ none → p.tag ≠ some e.tag → s.headProcess t = errs .pieceReserved) ∧
          (p.tag = none ∨ p.tag = some e.tag → x.plate ≠ none → s.headProcess t = errs .plateOpen) ∧
          (p.tag = none ∨ p.tag = some e.tag → x.plate = none →
            let q := { p with lifecycle := .inCut, revision := p.revision + 1, changed := true }
            let begun := (((s.writePiece e.piece q).stockFrame .cutBegun 0 q).modTable t fun y =>
              { y with plate := some e.piece }).modArc t fun a => { a with platePierces := 0 }
            s.headProcess t = (idled (begun.removeHead t)).headProcess t)) ∧
      (e.marks = [] → e.kind = .plateEnd → ¬waits →
        (x.plate = none ∨ (e.piece ≠ 0 ∧ x.plate ≠ some e.piece) → s.headProcess t = errs .noPlate) ∧
        ∀ id, x.plate = some id → e.piece = 0 ∨ e.piece = id →
          s.headProcess t =
            (idled (((s.consumePlate t id (match e.body with | .rects list => list | _ => [])).modTable t fun y =>
              { y with plate := none }).removeHead t)).headProcess t) ∧
      (e.marks = [] → e.kind.isCutting = true ∨ e.kind.isMark = true →
        (x.state = .yielding → e.kind ≠ .cut → s.headProcess t = s) ∧
        (x.state ≠ .yielding ∨ e.kind = .cut →
          (e.kind.isCutting = true → x.plate = none → s.headProcess t = errs .noPlate) ∧
          (e.kind.isMark = true → x.config.marker = none → s.headProcess t = errs .noMarker) ∧
          (∀ m, e.kind.isMark = true → x.config.marker = some m → s.markerValid m = false →
            s.headProcess t = errs .markerUnhomed) ∧
          ((e.kind.isCutting = true ∧ x.plate ≠ none) ∨
              (e.kind.isMark = true ∧ ∃ m, x.config.marker = some m ∧ s.markerValid m = true) →
            (x.state = .queued → s.permitGrantable t = true ∧ x.yielders = [] →
              s.headProcess t = ((s.takePermit t).modTable t fun y =>
                { y with state := .active, stall := 0, stallSent := false }).headProcess t) ∧
            (x.state = .queued → ¬(s.permitGrantable t = true ∧ x.yielders = []) →
              s.headProcess t = (s.modTable t fun y =>
                { y with state := .permitWait, stall := 0, stallSent := false }).appendHold (.table t)) ∧
            (x.state ≠ .queued →
              s.headProcess t = if s.releaseReady t e = true then (s.release t e).headProcess t else s))))) ∧
  (∀ (s : State) (t : Fin 6) (e : Entry),
    let x := s.table t
    let free := s.runState = .running ∧ ¬(s.stepFlag = true ∧ s.stepConsumed = true)
    (e.kind.isCutting = true → (s.releaseReady t e = true ↔ free ∧ x.inFlight < x.config.window ∧ x.ready = true ∧
      s.isFresh (.table t) = true ∧ (x.inFlight = 0 ∨ x.target = .controller))) ∧
    (∀ m, e.kind.isMark = true → x.config.marker = some m → (s.releaseReady t e = true ↔
      free ∧ x.inFlight = 0 ∧ (s.marker m).ready = true ∧ s.isFresh (.marker m) = true))) ∧
  ∀ (s : State) (t : Fin 6) (e : Entry) (rest : List Entry), (s.table t).queue = e :: rest →
    let refilled (u : State) := match (s.table t).lastSource with
      | none => u
      | some (src, port) =>
        if rest.length + 1 = (s.table t).config.lowWater then
          u.originate (if (s.station src.toNat).kind = .none then port
            else match (s.station src.toNat).side with | .field => .f | .upstream => .u) 0x31#8 src
            (put8 t.val ++ put8 (24 - rest.length))
        else u
    let noted (u : State) := if (s.table t).flights ≠ [] then u else u.modArc t fun a =>
      { a with base := if a.arc.level = true then s.cycle else a.base,
               watch := if e.kind = .pierceCut then some (e.segment, s.cycle) else none }
    let u := refilled (noted (s.modTable t fun y =>
      { y with queue := rest, released := y.released + 1, stall := 0, stallSent := false,
               flights := y.flights ++
                 [⟨e.kind, e.segment, e.piece, if e.kind.isMark = true then 0 else e.arcLimit, s.cycle⟩],
               target := if e.kind.isMark = true then .marker else .controller,
               markSummary := rest.any fun d => !d.marks.isEmpty }))
    s.removeHead t =
      refilled (s.modTable t fun y => { y with queue := rest, markSummary := rest.any fun d => !d.marks.isEmpty }) ∧
    (e.kind.isMark = false →
      s.release t e = { u.sendEntry (.table t) e with stepConsumed := s.stepConsumed || s.stepFlag }) ∧
    (∀ m, e.kind.isMark = true → (s.table t).config.marker = some m →
      s.release t e = { u.handMark m e with stepConsumed := s.stepConsumed || s.stepFlag }) ∧
    ∀ k : StationKind,
      (s.stationOf k = none → s.sendEntry k e = s) ∧
      ∀ n, s.stationOf k = some n →
        s.sendEntry k e = s.transmit .f (.hall ⟨0xFFFFFFFFFFFF#48, Config.ethernetAddress, 1#8, 0x20#8,
          BitVec.ofNat 8 n, e.source, e.seq, e.payload⟩)) ∧
  (∀ (s : State) (t : Fin 6) (plate : Nat) (rects : List Rect),
    (s.piece plate = none → s.consumePlate t plate rects = s) ∧
    ∀ p, s.piece plate = some p →
      let config := (s.table t).config
      let scrap := (rects.filter fun r => decide (r.width < config.minSide ∨ r.length < config.minSide)).length
      let consumed := (State.leavePlace { s with stock := s.stock.filter fun q => q.id ≠ plate } p.location).stockFrame
        .consumed scrap { p with revision := p.revision + 1 }
      s.consumePlate t plate rects =
        rects.foldl (fun u r => State.takeRect t config.minSide config.markFirst p u r) consumed) ∧
  (∀ (s : State) (t : Fin 6) (minSide : Nat) (markFirst : Bool) (plate : Piece) (r : Rect),
    State.takeRect t minSide markFirst plate s r =
      if r.width < minSide ∨ r.length < minSide then s
      else if r.id = 0 ∨ 30000 < r.width ∨ 30000 < r.length ∨ (∃ q ∈ s.stock, q.id = r.id) ∨ 256 ≤ s.stock.length then
        s.raise .flow 6 (0x10 + t.val) r.id
      else
        let q : Piece :=
          { id := r.id, kind := .remnant, parent := some plate.id, grade := plate.grade, thickness := plate.thickness,
            width := r.width, length := r.length, lifecycle := if markFirst = true then .awaitingMark else .available,
            location := .onTable t, tag := none, marked := false, partlyCut := false, revision := 0, changed := true }
        State.stockFrame { s with stock := insertPiece q s.stock } .created 0 q) ∧
  ∀ (s : State) (m : Fin 4) (e : Entry),
    let struck := (s.marker m).struck.getD 0
    (∀ start length dots refit, e.body = .line start length dots refit →
      let line : Line :=
        { id := e.segment, start := start, length := length, dots := dots, refit := refit, total := dots,
          spanBase := start, spanLength := length, spanDots := dots, accumulator := (length : Int) - dots,
          nextIndex := 1, produced := 0, issued := 0, struckBase := struck, unstruck := [], edgeTaken := false,
          replaceDue := false }
      s.handMark m e = (s.modMarker m fun k => { k with line := some line }).feedAll m) ∧
    ((∀ start length dots refit, e.body ≠ .line start length dots refit) →
      s.handMark m e = (s.modMarker m fun k => { k with text := some ⟨e.segment, e.piece, struck⟩ }).sendEntry
        (.marker m) e)) ∧
  ∀ (x : Table) (r : SegRead) (m : Mark),
    m ∈ x.arrivalMarks r ↔ match m with
      | .seqGap => r.entry.kind ≠ .plateBegin ∧ ∃ n, x.expected = some n ∧ n ≠ r.entry.segment
      | .noMarker => (r.entry.kind = .markLine ∨ r.entry.kind = .markText) ∧ x.config.marker = none
      | .badFields => r.badLength = true ∨ match r.entry.kind with
        | .markLine => ∃ start length dots refit, r.entry.body = .line start length dots refit ∧
          (dots = 0 ∨ length < dots)
        | .plateBegin => r.entry.piece = 0
        | .pierceCut | .cut => r.entry.arcLimit = 0
        | .traverse | .markText | .plateEnd | .other _ => False
      | .pieceNotHere | .pieceReserved | .plateOpen | .noPlate | .markerUnhomed => False

/-- CRANE_SAMPLE. In every run state: the station is freshened, a mirrored sample copied upstream first
(notes/assumptions/35.md), the bridge channel and then the trolley channel take their levels
(notes/assumptions/49.md), motion is filtered over the settle count, the load latch is primed, resumed or filtered and
its rise or fall taken, a MOVE that has moved and is STILL ends, and outside HALTED with a valid position the claims
are recomputed; a HELD crane has the list evaluated. A rise completes a LIFT, taking the piece where its record may be
taken, and is an unexpected load elsewhere; a fall completes a LOWER, laying the piece in its place, and is a dropped
load elsewhere. A MOVE ends COMPLETE within both tolerances at a valid position, STOPPED_SHORT with its notice
elsewhere. In HALTED, with an EMPTY slot and the latch unchanged, nothing beyond channels, motion and the latch's run
changes. (R21, R23, R40, R41, R42, R48, R53, R55, R56, R58, R59, R164) -/
def Obligations.CraneSamplesAreTaken : Prop :=
  (∀ (h : Header) (c : Fin 4) (bridge trolley state : Byte) (s : State), s.Samples h (.crane c) →
    s.runState = .halted → (s.crane c).slot = .empty → (s.crane c).latchPrimed = true →
    (s.crane c).latchResume = false → (s.crane c).latch.level = state.getLsbD 1 →
    exec (.craneSample h bridge trolley state) s = .next (s.tagged
      ((((s.sampled h [bridge, trolley, state]).sampleChannel (bridgeOf c)
          ⟨bridge.getLsbD 0, bridge.getLsbD 1, bridge.getLsbD 2, bridge.getLsbD 3⟩).sampleChannel (trolleyOf c)
          ⟨trolley.getLsbD 0, trolley.getLsbD 1, trolley.getLsbD 2, trolley.getLsbD 3⟩).modCrane c fun k =>
        let still := min k.config.settle (k.still + 1)
        { k with
            moving := if state.getLsbD 0 = true then true else if still = k.config.settle then false else k.moving,
            still := if state.getLsbD 0 = true then 0 else still,
            latch := { level := k.latch.level, run := 0 } }))) ∧
  (∀ (h : Header) (c : Fin 4) (bridge trolley state : Byte) (s : State), s.Samples h (.crane c) →
    let u := ((s.sampled h [bridge, trolley, state]).sampleChannel (bridgeOf c)
        ⟨bridge.getLsbD 0, bridge.getLsbD 1, bridge.getLsbD 2, bridge.getLsbD 3⟩).sampleChannel (trolleyOf c)
        ⟨trolley.getLsbD 0, trolley.getLsbD 1, trolley.getLsbD 2, trolley.getLsbD 3⟩
    let v := u.modCrane c fun k =>
      let still := min k.config.settle (k.still + 1)
      { k with
          moving := if state.getLsbD 0 = true then true else if still = k.config.settle then false else k.moving,
          still := if state.getLsbD 0 = true then 0 else still,
          slot := match k.slot with
            | .inFlight op => .inFlight { op with moved := op.moved ||
                (state.getLsbD 0 && match op.operation with | .move .. => true | .lift .. | .lower => false) }
            | slot => slot }
    let w := (v.takeLatch c (state.getLsbD 1)).checkArrival c
    exec (.craneSample h bridge trolley state) s =
      .next (s.tagged (State.finish ((w.recomputeStep c).1.perform (w.recomputeStep c).2)))) ∧
  (∀ (s : State) (c : Fin 4),
    (s.runState = .halted ∨ s.craneValid c = false →
      s.recomputeStep c = (s, match (s.crane c).slot with | .held .. => [.eval] | .empty | .inFlight _ => [])) ∧
    (s.runState ≠ .halted → s.craneValid c = true →
      (s.recomputeStep c).1 = (s.recompute c).1 ∧
      ((∀ op copy, ((s.recompute c).1.crane c).slot ≠ .held op copy) →
        (s.recomputeStep c).2 = (s.recompute c).2) ∧
      ∀ op copy, ((s.recompute c).1.crane c).slot = .held op copy →
        (s.recomputeStep c).2 =
          if .eval ∈ (s.recompute c).2 then (s.recompute c).2 else (s.recompute c).2 ++ [.eval])) ∧
  (∀ (s : State) (c : Fin 4) (raw : Bool),
    let k := s.crane c
    let u := s.modCrane c fun k => { k with latchPrimed := true, latchResume := false, latch := ⟨raw, 0⟩ }
    let level := k.latch.take (s.channel (bridgeOf c)).depth raw
    let v := s.modCrane c fun k => { k with latch := level }
    (k.latchPrimed = false ∨ k.latchResume = true →
      s.takeLatch c raw =
        if raw = true ∧ k.load = .none then u.latchRise c
        else if raw = false ∧ k.load ≠ .none then u.latchFall c else u) ∧
    (k.latchPrimed = true → k.latchResume = false →
      s.takeLatch c raw =
        if level.level = k.latch.level then v else if level.level = true then v.latchRise c else v.latchFall c)) ∧
  (∀ (s : State) (c : Fin 4),
    let ended (u : State) (e : OpEnd) (op : OpRecord) :=
      u.modCrane c fun k => { k with slot := .empty, last := some ⟨e, op.operation.code, s.cycle⟩ }
    let loaded (u : State) (load : Load) := u.modCrane c fun k => { k with load := load }
    ((∀ op tb tt, (s.crane c).slot = .inFlight op → op.operation ≠ .move tb tt) → s.checkArrival c = s) ∧
    (∀ op tb tt, (s.crane c).slot = .inFlight op → op.operation = .move tb tt →
      let db := ((s.channel (bridgeOf c)).position - tb).natAbs
      let dt := ((s.channel (trolleyOf c)).position - tt).natAbs
      s.checkArrival c =
        if ¬(op.moved = true ∧ (s.crane c).moving = false) then s
        else if s.craneValid c = false then (ended s .stoppedShort op).raise .fault 4 c.val 0
        else if db ≤ (s.crane c).config.bridgeTolerance ∧ dt ≤ (s.crane c).config.trolleyTolerance then
          ended s .complete op
        else (ended s .stoppedShort op).raise .fault 4 c.val ((min 65535 (max db dt) : Nat) : Int)) ∧
    ((∀ op id saved, (s.crane c).slot = .inFlight op → op.operation ≠ .lift id saved) →
      s.latchRise c = (loaded s (.untracked 0)).raise .fault 8 c.val 0) ∧
    (∀ op id saved, (s.crane c).slot = .inFlight op → op.operation = .lift id saved →
      (id = 0 → s.latchRise c = ended (loaded s (.untracked saved)) .complete op) ∧
      (∀ p, id ≠ 0 → s.piece id = some p → p.lifecycle ≠ .inCut → (∀ d, p.location ≠ .onCrane d) →
        let q := { p with location := .onCrane c, revision := p.revision + 1, changed := true }
        s.latchRise c = ended (loaded (((s.writePiece id q).leavePlace p.location).stockFrame .lifted 0 q)
          (.piece id)) .complete op) ∧
      (id ≠ 0 → (∀ p, s.piece id = some p → p.lifecycle = .inCut ∨ ∃ d, p.location = .onCrane d) →
        s.latchRise c = ended ((loaded s (.untracked saved)).raise .fault 8 c.val id) .complete op)) ∧
    (∀ op, (s.crane c).slot = .inFlight op → op.operation = .lower →
      (∀ id, (s.crane c).load = .piece id →
        let place := s.lowerPlace c
        let laid := loaded (s.changePiece id .lowered fun p => { p with location := place }) .none
        ((∀ z, place ≠ .unverified z) → s.latchFall c = ended laid .complete op) ∧
        ∀ z, place = .unverified z → s.latchFall c = ended (laid.raise .fault 10 c.val id) .complete op) ∧
      ((∀ id, (s.crane c).load ≠ .piece id) → s.latchFall c = ended (loaded s .none) .complete op)) ∧
    ((∀ op, (s.crane c).slot = .inFlight op → op.operation ≠ .lower) →
      (∀ id, (s.crane c).load = .piece id →
        let place := Location.unverified (if s.craneValid c = true then s.hookZone c else none)
        s.latchFall c = (loaded (s.changePiece id .loadFall fun p => { p with location := place }) .none).raise
          .fault 9 c.val id) ∧
      (∀ radius, (s.crane c).load = .untracked radius →
        s.latchFall c = (loaded s .none).raise .fault 9 c.val 0) ∧
      ((s.crane c).load = .none → s.latchFall c = s))) ∧
  (∀ (s : State) (c : Fin 4),
    (s.craneValid c = false ∨ s.hookZone c = none → s.lowerPlace c = .unverified none) ∧
    ∀ z, s.craneValid c = true → s.hookZone c = some z →
      ((s.zone z).use = .floor ∨ (s.zone z).use = .rack →
        s.lowerPlace c = if (s.zone z).stored < (s.zone z).capacity then .zone z else .unverified (some z)) ∧
      (∀ t, (s.zone z).use = .table t →
        ((∀ p ∈ s.stock, p.location ≠ .onTable t) → s.lowerPlace c = .onTable t) ∧
        ((∃ p ∈ s.stock, p.location = .onTable t) → s.lowerPlace c = .unverified (some z))) ∧
      ((s.zone z).use = .aisle ∨ (s.zone z).use = .keepOut ∨ (s.zone z).use = .none →
        s.lowerPlace c = .unverified (some z))) ∧
  ∀ (s : State) (id : Nat) (cause : StockCause) (f : Piece → Piece),
    (s.piece id = none → s.changePiece id cause f = s) ∧
    ∀ p, s.piece id = some p →
      let q := { f p with revision := (f p).revision + 1, changed := true }
      let written := s.writePiece id q
      s.changePiece id cause f =
        (if p.location = q.location then written
         else (written.leavePlace p.location).enterPlace q.location).stockFrame cause 0 q

/-- TABLE_SAMPLE and MARKER_SAMPLE. A mirrored copy goes upstream before what the sample sets off
(notes/assumptions/35.md). A table sample, in every run state: ready, the done count (the first is only kept; with a
mark in flight none counts; up to the in-flight count it advances the done total and drops the oldest records; past it
the done total is brought to the released count, with DONE_RESYNC where entries were in flight), then the arc: primed,
resumed or filtered; a rise counts a pierce, a fall ends an episode; ARC_UNPERMITTED once an episode without the
permit; the arc checks; in FAULT with the arc OFF the permit drops; then the head (R73, R119). A marker sample with at
most 16 waiting: the carriage, ready and waiting, the struck count (a line whose dots are all struck and a text struck
at are done), the edge (a rise in a line not yet at its edge refits it or clips it, R135 to R137), one STRIKE where
the feeding conditions hold, and the done to the bound table. One with more than 16 waiting is not of the form and
only mirrored (R188). A struck text marks its piece, where that has a record that is not marked already or awaits its
mark, with a MARKED frame. The dots a STRIKE carries are the next planned ones of the span under rising indices, each
held within the position range. That a clip compares the planned positions before they are held in the range
(notes/assumptions/38.md), that the replace flag waits for the next STRIKE (notes/assumptions/20.md) and that a STRIKE
without a station takes no counter value (notes/assumptions/19.md) is the model's reading. That a clip feeds before it
raises MARK_CLIPPED is its choice (notes/assumptions/57.md). (R65, R79, R80, R111, R112, R113, R116, R129, R131, R132,
R134, R136) -/
def Obligations.TableAndMarkerSamplesAreTaken : Prop :=
  (((∀ (h : Header) (t : Fin 6) (state count : Byte) (s : State), s.Samples h (.table t) → s.runState = .halted →
    (s.table t).state ≠ .fault → (s.arc t).primed = true → (s.arc t).arc.level = false → state.getLsbD 0 = false →
    (s.arc t).watch = none →
    let arcs (u : State) := u.modArc t fun a =>
      { a with arc := { level := false, run := 0 }, resume := false,
               episode := if (s.table t).permit = true then false else a.episode }
    ((s.table t).lastDone = some count →
      exec (.tableSample h state count) s = .next (arcs ((s.sampled h [state, count]).modTable t fun x =>
        { x with ready := state.getLsbD 1 }))) ∧
    ((s.table t).lastDone = none →
      exec (.tableSample h state count) s = .next (arcs ((s.sampled h [state, count]).modTable t fun x =>
        { x with ready := state.getLsbD 1, lastDone := some count }))) ∧
    ∀ last, (s.table t).lastDone = some last → (s.table t).target = .controller → count - last ≠ 0 →
      (count - last).toNat = (s.table t).inFlight → (s.table t).flights.length ≤ (count - last).toNat →
      exec (.tableSample h state count) s = .next (arcs ((s.sampled h [state, count]).modTable t fun x =>
        { x with ready := state.getLsbD 1, lastDone := some count, done := x.released, flights := [], stall := 0,
                 stallSent := false }))) ∧
  ∀ (h : Header) (m : Fin 4) (carriage state struck waiting : Byte) (s : State), s.Samples h (.marker m) →
    s.runState = .halted → (s.marker m).line = none → (s.marker m).text = none →
    (waiting.toNat ≤ 16 →
      exec (.markerSample h carriage state struck waiting) s = .next (s.tagged
        (((s.sampled h [carriage, state, struck, waiting]).sampleChannel (carriageOf m)
          ⟨carriage.getLsbD 0, carriage.getLsbD 1, carriage.getLsbD 2, carriage.getLsbD 3⟩).modMarker m fun k =>
          { k with ready := state.getLsbD 1, waiting := waiting.toNat, struck := some struck,
                   edge := some (state.getLsbD 0), resume := false }))) ∧
    (16 < waiting.toNat →
      exec (.markerSample h carriage state struck waiting) s = .next
        (if (s.station h.src.toNat).mirror = true then
          s.transmit .u (.hall ⟨h.ethDst, h.ethSrc, h.version, 0x03#8, h.dst, h.src, h.seq,
            [carriage, state, struck, waiting]⟩)
         else s))) ∧
  (∀ (h : Header) (t : Fin 6) (state count : Byte) (s : State), s.Samples h (.table t) →
    let u := ((s.sampled h [state, count]).modTable t fun x => { x with ready := state.getLsbD 1 }).takeDone t count
    let v := (((u.takeArcLevel t (state.getLsbD 0)).checkUnpermitted t).checkNoStart t).checkOverrun t
    exec (.tableSample h state count) s = .next (s.tagged (State.finish
      (if (v.table t).state = .fault ∧ (v.table t).permit = true ∧ (v.arc t).arc.level = false then
        (v.dropPermit t).perform [.eval, .act t]
       else v.perform [.act t])))) ∧
  (∀ (s : State) (t : Fin 6) (count : Byte),
    let x := s.table t
    let kept := s.modTable t fun x => { x with lastDone := some count }
    let noted (u : State) := if x.flights = [] then u else u.noteOldest t
    (x.lastDone = none → s.takeDone t count = kept) ∧
    ∀ last, x.lastDone = some last →
      (count = last ∨ (x.target = .marker ∧ 0 < x.inFlight) → s.takeDone t count = kept) ∧
      (count ≠ last → x.target = .controller ∨ x.inFlight = 0 →
        ((count - last).toNat ≤ x.inFlight →
          s.takeDone t count = (kept.modTable t fun x =>
            { x with done := x.done + (count - last), flights := x.flights.drop (count - last).toNat, stall := 0,
                     stallSent := false }).noteOldest t) ∧
        (x.inFlight < (count - last).toNat →
          let emptied := noted (kept.modTable t fun x =>
            { x with done := x.released, flights := [], stall := 0, stallSent := false })
          s.takeDone t count =
            if 0 < x.inFlight then emptied.raise .flow 4 (0x10 + t.val) (count - last).toNat else emptied))) ∧
  (∀ (s : State) (t : Fin 6),
    let x := s.table t
    s.noteOldest t = (s.modArc t fun a =>
      { a with base := if a.arc.level = true then s.cycle else a.base,
               watch := match x.flights with
                 | f :: _ => if f.kind = .pierceCut then some (f.segment, s.cycle) else none
                 | [] => none }) ∧
    s.emptyFlights t =
      (let v := s.modTable t fun x => { x with released := x.done, flights := [] }
       if x.flights = [] then v else v.noteOldest t) ∧
    ∀ (a : Arc) (raw : Bool), a = s.arc t →
      let turn (u : State) := if raw = true then u.arcRise t else u.arcFall t
      let counted := s.modArc t fun a => { a with resume := false,
                                                  arc := { level := a.arc.level, run := a.arc.run + 1 } }
      let same := s.modArc t fun a => { a with resume := false, arc := { level := a.arc.level, run := 0 } }
      let changed := s.modArc t fun a => { a with resume := false, arc := { level := raw, run := 0 } }
      (a.primed = false → s.takeArcLevel t raw = s.modArc t fun a =>
        { a with primed := true, resume := false, arc := { level := raw, run := 0 }, lastEdge := s.cycle }) ∧
      (a.primed = true → raw = a.arc.level → s.takeArcLevel t raw = same) ∧
      (a.primed = true → raw ≠ a.arc.level →
        s.takeArcLevel t raw =
          if a.resume = true ∨ x.config.arcDepth ≤ a.arc.run + 1 then turn changed else counted)) ∧
  (∀ (s : State) (t : Fin 6),
    let a := s.arc t
    let limit := (s.table t).config.pierceLimit
    let risen := s.modArc t fun a =>
      { a with lastOff := s.cycle - a.lastEdge, lastEdge := s.cycle, platePierces := min 65535 (a.platePierces + 1),
               wearPierces := min 4294967295 (a.wearPierces + 1), base := s.cycle, watch := none }
    let wear := min 4294967295 (a.wearPierces + 1)
    s.arcRise t =
      (if limit ≠ 0 ∧ limit ≤ wear ∧ a.piercesReported = false then
        (risen.modArc t fun a => { a with piercesReported := true }).raise .wear 1 (0x10 + t.val) wear
       else risen) ∧
    s.arcFall t = (s.modArc t fun a =>
      { a with lastOn := s.cycle - a.lastEdge, lastEdge := s.cycle, episode := false }) ∧
    ((s.table t).permit = true → s.checkUnpermitted t = s.modArc t fun a => { a with episode := false }) ∧
    ((s.table t).permit = false → a.arc.level = false ∨ a.episode = true → s.checkUnpermitted t = s) ∧
    ((s.table t).permit = false → a.arc.level = true → a.episode = false →
      s.checkUnpermitted t = ((s.modArc t fun a => { a with episode := true }).raise .guard 3 (0x10 + t.val)
        (((s.stationOf (.table t)).getD 0 : Nat) : Int)).enterFault t)) ∧
  (∀ (h : Header) (m : Fin 4) (carriage state struck waiting : Byte) (s : State), s.Samples h (.marker m) →
    waiting.toNat ≤ 16 →
    let u := ((s.sampled h [carriage, state, struck, waiting]).sampleChannel (carriageOf m)
      ⟨carriage.getLsbD 0, carriage.getLsbD 1, carriage.getLsbD 2, carriage.getLsbD 3⟩).modMarker m fun k =>
      { k with ready := state.getLsbD 1, waiting := waiting.toNat }
    let v := u.takeStruck m struck
    let w := v.1.takeEdgeLevel m (state.getLsbD 0)
    let x := (w.1.feedOne m).reportDone m (v.2 || w.2)
    exec (.markerSample h carriage state struck waiting) s = .next (s.tagged (State.finish (x.1.perform x.2)))) ∧
  (∀ (s : State) (m : Fin 4) (struck : Byte),
    let k := s.marker m
    let u := s.modMarker m fun k =>
      { k with struck := some struck,
               line := k.line.map fun l =>
                 { l with unstruck := l.unstruck.filter fun d => (struck - l.struckBase).toNat < d.1 } }
    (∀ l, k.line = some l → l.total ≤ (struck - l.struckBase).toNat →
      s.takeStruck m struck = (u.modMarker m fun k => { k with line := none }, true)) ∧
    ((∀ l, k.line = some l → (struck - l.struckBase).toNat < l.total) →
      (∀ x, k.text = some x → struck ≠ x.struckBase →
        let v := u.modMarker m fun k => { k with text := none }
        s.takeStruck m struck = (if x.piece = 0 then v else v.markPiece x.piece, true)) ∧
      ((∀ x, k.text = some x → struck = x.struckBase) → s.takeStruck m struck = (u, false)))) ∧
  (∀ (s : State) (m : Fin 4) (level : Bool),
    let k := s.marker m
    let u := s.modMarker m fun k => { k with edge := some level, resume := false }
    let rise := k.edge = some false ∧ level = true ∧ k.resume = false
    ((∀ l, k.line = some l → ¬rise ∨ l.edgeTaken = true) → s.takeEdgeLevel m level = (u, false)) ∧
    ∀ l, k.line = some l → rise → l.edgeTaken = false → s.takeEdgeLevel m level = u.takeEdge m l) ∧
  (∀ (s : State) (m : Fin 4) (l : Line),
    let k := s.marker m
    let struck := (k.struck.getD 0 - l.struckBase).toNat
    let q := (s.channel (carriageOf m)).position
    let counts := k.lookAhead - k.edgeMargin
    let remaining := l.total - struck
    let refits := l.refit = true ∧ s.markerValid m = true ∧ (remaining : Int) ≤ counts
    let kept := if s.markerValid m = true ∧ 1 ≤ counts then
        ((List.range' (struck + 1) remaining).filter fun i =>
          decide (spanDot l.start l.length l.dots i ≤ q + counts)).length
      else 0
    let again (l : Line) := { l with issued := struck, nextIndex := struck + 1, unstruck := [], edgeTaken := true,
                                     replaceDue := true }
    let refitted := { again l with spanBase := q, spanLength := counts.toNat, spanDots := remaining,
                                   accumulator := (counts.toNat : Int) - remaining, produced := 0 }
    let clipped := { again l with total := struck + kept, produced := struck,
                                  accumulator := accumulatorAfter l.spanLength l.spanDots struck }
    let laid (x : Option Line) := s.modMarker m fun k => { k with line := x }
    let told (u : State) := if 1 ≤ remaining - kept then u.raise .flow 5 (0x20 + m.val) (remaining - kept : Nat)
      else u
    (refits → s.takeEdge m l = ((laid (some refitted)).feedAll m, false)) ∧
    (¬refits → 1 ≤ kept → s.takeEdge m l = (told ((laid (some clipped)).feedAll m), false)) ∧
    (¬refits → kept = 0 → s.takeEdge m l = (told (laid none), true))) ∧
  ∀ (s : State) (m : Fin 4),
    let k := s.marker m
    (k.line = none → s.feedOne m = s) ∧
    (∀ l, k.line = some l →
      let outstanding := l.issued - (k.struck.getD 0 - l.struckBase).toNat
      let n := min 8 (min (l.total - l.issued) (16 - outstanding))
      let dots := (l.takeDots n).1
      let grown : Line :=
        { (l.takeDots n).2 with issued := l.issued + n, unstruck := l.unstruck ++ dots, replaceDue := false }
      let fed := s.modMarker m fun k => { k with line := some grown }
      s.feedOne m =
        if l.issued < l.total ∧ outstanding < 16 ∧ k.waiting ≤ 8 then
          match s.stationOf (.marker m) with
          | none => fed
          | some station => fed.originate .f 0x21#8 (BitVec.ofNat 8 station)
              (put16 l.id.toNat ++ put8 ((dots.head?.map Prod.fst).getD 0) ++ putFlag l.replaceDue ++
               put8 dots.length ++ dots.flatMap fun d => put24 d.2)
        else s) ∧
    s.feedAll m = (s.feedOne m).feedOne m ∧
    ∀ finished : Bool,
      (s.boundTable m = none → s.reportDone m finished = (s, [])) ∧
      ∀ t, s.boundTable m = some t →
        s.reportDone m finished =
          (if finished = true ∧ 0 < (s.table t).inFlight ∧ (s.table t).target = .marker then
            (s.modTable t fun x => { x with done := x.done + 1, flights := x.flights.drop 1, stall := 0,
                                            stallSent := false }).noteOldest t
           else s, [.act t])) ∧
  (∀ (s : State) (id : Nat),
    (s.piece id = none → s.markPiece id = s) ∧
    ∀ p, s.piece id = some p →
      let q (x : Lifecycle) : Piece := { p with lifecycle := x, marked := true, revision := p.revision + 1,
                                                changed := true }
      (p.lifecycle = .awaitingMark →
        s.markPiece id = (s.writePiece id (q .available)).stockFrame .marked 0 (q .available)) ∧
      (p.lifecycle ≠ .awaitingMark → p.marked = false →
        s.markPiece id = (s.writePiece id (q p.lifecycle)).stockFrame .marked 0 (q p.lifecycle)) ∧
      (p.lifecycle ≠ .awaitingMark → p.marked = true → s.markPiece id = s)) ∧
  ∀ (l : Line) (n : Nat), 1 ≤ l.spanDots → l.spanDots ≤ l.spanLength → l.produced + n ≤ l.spanDots →
    l.accumulator = accumulatorAfter l.spanLength l.spanDots l.produced →
    l.takeDots n =
      ((List.range n).map fun k =>
        (l.nextIndex + k,
         max (-8388608) (min 8388607 (spanDot l.spanBase l.spanLength l.spanDots (l.produced + k + 1)))),
       { l with accumulator := accumulatorAfter l.spanLength l.spanDots (l.produced + n),
                produced := l.produced + n, nextIndex := l.nextIndex + n })

/-- CYCLE_BOUNDARY: the misses it counts, the cycle it begins, the timers it advances. With the cycle master STOPPED
there is none (notes/assumptions/25.md). STARTED: each station whose poll of the ending cycle is unanswered counts a
miss, in ascending order, and one short of its limit nothing more; the cycle number rises by one, the trim in force is
taken, CYCLE and the POLLs of the entry (cycle number mod 32) leave an open Port F in order under the next values of
the origin counter (notes/assumptions/27.md), used also where Port F is closed, and the polled stations that are bound
have a poll outstanding; then each crane's limits, the Hold List's expiries, oldest first, each table's stall, linger
and wear counts, then what these set off, then each table's head. A stall timer at its limit raises STALL once, a wear
count at a limit other than 0 its WEAR notice once. With no unit at work and no limit reached only cycle, origin
counter and stations change. The ascending order of the misses (notes/assumptions/23.md) and the order of the units'
work at a boundary (notes/assumptions/24.md) are the model's choices. (R54, R73, R82, R83, R102, R114, R120, R165,
R167, R168, R170, R184) -/
def Obligations.CycleBoundaryAdvances : Prop :=
  ((∀ s : State, s.powered = true → s.Settled → s.started = false → exec .cycleBoundary s = .next s) ∧
  (∀ s : State, s.powered = true → s.started = true →
    ∃ t : State, exec .cycleBoundary s = .next t ∧ t.cycle = s.cycle + 1 ∧ t.cycleTrim = s.trim ∧ t.trim = s.trim ∧
      t.schedule = s.schedule ∧ t.bridge = s.bridge ∧ t.trolley = s.trolley ∧ t.geometrySet = s.geometrySet ∧
      t.ownStation = s.ownStation ∧ t.report = s.report ∧ t.policy = s.policy ∧ t.linkU = s.linkU ∧
      t.linkF = s.linkF ∧ t.enableF = s.enableF) ∧
  ∀ s : State, s.powered = true → s.Settled → s.started = true → s.Quiet →
    (∀ n < 64, (s.station n).polled = true → min 15 ((s.station n).misses + 1) < (s.station n).missLimit ∨
      (s.station n).freshness = .stale ∨ ((s.station n).freshness = .never ∧ (s.station n).silent = true)) →
    ∃ t : State, exec .cycleBoundary s = .next t ∧
      t = { s with cycle := s.cycle + 1, cycleTrim := s.trim, origin := t.origin, stations := t.stations,
                   sentF := s.sentF ++ (if s.enableF = true ∧ s.linkF = true then s.boundaryFrames else []) } ∧
      t.origin = s.origin + 1 + BitVec.ofNat 16 s.nextEntry.length ∧
      ∀ n < 64, t.station n =
        { s.station n with
            polled := decide (n ∈ s.nextEntry) && (s.station n).kind.isBound,
            misses := if (s.station n).polled = true then min 15 ((s.station n).misses + 1) else (s.station n).misses }) ∧
  (∀ s : State, s.powered = true → s.started = true →
    exec .cycleBoundary s = .next (s.tagged (State.finish (State.unitBoundary (State.beginCycle
      ((List.range 64).foldl (fun u n => if (u.station n).polled = true then u.countMiss n else u) s)))))) ∧
  (∀ (s : State) (n : Nat), n < 64 →
    let x := s.station n
    let misses := min 15 (x.misses + 1)
    let missed := s.modStation n fun x => { x with polled := false, misses := misses }
    (misses < x.missLimit ∨ x.freshness = .stale ∨ (x.freshness = .never ∧ x.silent = true) →
      s.countMiss n = missed) ∧
    (x.missLimit ≤ misses → x.freshness = .fresh → s.countMiss n = missed.becomeStale n) ∧
    (x.missLimit ≤ misses → x.freshness = .never → x.silent = false →
      s.countMiss n = (missed.modStation n fun x => { x with silent := true }).raise .fault 15 x.kind.unitCode n)) ∧
  (∀ s : State,
    s.beginCycle = { s with cycle := s.cycle + 1, cycleTrim := s.trim, stations := s.beginCycle.stations,
                            origin := s.origin + 1 + BitVec.ofNat 16 s.nextEntry.length,
                            sentF := s.sentF ++
                              (if s.enableF = true ∧ s.linkF = true then s.boundaryFrames else []) } ∧
    (∀ n < 64, s.beginCycle.station n =
      { s.station n with
          polled := (s.station n).polled || (decide (n ∈ s.nextEntry) && (s.station n).kind.isBound) }) ∧
    let limited := ([0, 1, 2, 3] : List (Fin 4)).foldl (fun u c => (u.checkStart c).checkTimeout c) s
    let expired := State.expireHold s.hold limited
    let timed := ([0, 1, 2, 3, 4, 5] : List (Fin 6)).foldl
      (fun u t => ((u.stallBoundary t).lingerBoundary t).wearBoundary t) expired.1
    s.unitBoundary =
      timed.perform (expired.2 ++ [.act 0, .act 1, .act 2, .act 3, .act 4, .act 5])) ∧
  (∀ (s : State) (e : HoldEntry) (rest : List HoldEntry),
    State.expireHold [] s = (s, []) ∧
    (∀ t, e.unit = .table t → State.expireHold (e :: rest) s = State.expireHold rest s) ∧
    ∀ c, e.unit = .crane c →
      ((∀ op copy, (s.crane c).slot = .held op copy → (s.cycle - op.entry).toNat < (s.crane c).config.holdLimit) →
        State.expireHold (e :: rest) s = State.expireHold rest s) ∧
      ∀ op copy, (s.crane c).slot = .held op copy → (s.crane c).config.holdLimit ≤ (s.cycle - op.entry).toNat →
        let left := s.dropHeld c .holdExpired true
        State.expireHold (e :: rest) s =
          ((State.expireHold rest left.1).1, left.2 ++ (State.expireHold rest left.1).2)) ∧
  ∀ (s : State) (t : Fin 6),
    let x := s.table t
    let counted := s.modTable t fun x => { x with stall := min 65535 (x.stall + 1) }
    let wear := min 4294967295 ((s.arc t).wearArc + 1)
    let worn := s.modArc t fun a => { a with wearArc := wear }
    (s.stallCounts t = true ↔
      s.runState = .running ∧ (x.state = .active ∨ x.state = .permitWait) ∧ x.queue ≠ []) ∧
    s.stallBoundary t =
      (if s.stallCounts t = false then s
       else if x.config.stallLimit ≤ min 65535 (x.stall + 1) ∧ x.stallSent = false then
        (counted.modTable t fun x => { x with stallSent := true }).raise .flow 3 (0x10 + t.val) x.queue.length
       else counted) ∧
    (s.lingerCounts t = true ↔
      s.runState = .running ∧ (x.state = .active ∨ (x.state = .headError ∧ x.permit = true)) ∧ x.inFlight = 0 ∧
        (s.arc t).arc.level = false ∧
        (x.state = .headError ∨ ∀ e ∈ x.queue.head?, e.kind = .plateBegin ∨ e.kind = .plateEnd)) ∧
    s.lingerBoundary t =
      (if s.lingerCounts t = true then s.modTable t fun x => { x with linger := min 10000 (x.linger + 1) } else s) ∧
    s.wearBoundary t =
      if (s.arc t).arc.level = true ∧ s.isFresh (.table t) = true then
        if x.config.arcLimit ≠ 0 ∧ x.config.arcLimit ≤ wear ∧ (s.arc t).arcReported = false then
          (worn.modArc t fun a => { a with arcReported := true }).raise .wear 2 (0x10 + t.val) wear
        else worn
      else s

/-- STATION_STALE and STATION_SILENT. Where a station's unanswered poll brings its miss count to its limit: a FRESH
station becomes STALE, its unit's channels, latch or arc are marked for resumption with every held value kept, and
STATION_STALE is raised; a NEVER station is marked silent and STATION_SILENT raised, once. Elsewhere the command
changes nothing. The commands standing apart from the boundary are the model's (notes/assumptions/11.md). A marker's
loss ends its line first, with MARK_LOST and its bound table in FAULT (notes/assumptions/22.md, as is unit code 0 for
a station of no unit). (R22, R84, R111, R138, R165, R166) -/
def Obligations.MissLimitsMakeStale : Prop :=
  (∀ (n : Nat) (s : State), s.powered = true → s.Settled → n < 64 →
    let due := (s.station n).polled = true ∧ (s.station n).missLimit ≤ min 15 ((s.station n).misses + 1)
    let missed (f : Freshness) (silent : Bool) := s.modStation n fun x =>
      { x with polled := false, misses := min 15 (x.misses + 1), freshness := f, silent := x.silent || silent }
    (¬(due ∧ (s.station n).freshness = .fresh) → exec (.stationStale n) s = .next s) ∧
    (¬(due ∧ (s.station n).freshness = .never) → exec (.stationSilent n) s = .next s) ∧
    (due → (s.station n).freshness = .fresh →
      (∀ c : Fin 4, (s.station n).kind = .crane c → exec (.stationStale n) s = .next (s.tagged
        (((((missed .stale false).modChannel (bridgeOf c) fun a => { a with resume := true }).modChannel (trolleyOf c)
          fun a => { a with resume := true }).modCrane c fun k => { k with latchResume := true }).raise
          .fault 14 c.val n))) ∧
      (∀ t : Fin 6, (s.station n).kind = .table t → exec (.stationStale n) s = .next (s.tagged
        (((missed .stale false).modArc t fun a => { a with resume := true }).raise .fault 14 (0x10 + t.val) n))) ∧
      ((s.station n).kind.isBound = false → exec (.stationStale n) s = .next (s.tagged
        ((missed .stale false).raise .fault 14 0 n))) ∧
      ∀ m : Fin 4, (s.station n).kind = .marker m → (s.marker m).line = none →
        exec (.stationStale n) s = .next (s.tagged
          ((((missed .stale false).modChannel (carriageOf m) fun a => { a with resume := true }).modMarker m fun k =>
            { k with resume := true }).raise .fault 14 (0x20 + m.val) n))) ∧
    (due → (s.station n).freshness = .never →
      exec (.stationSilent n) s = .next (
        if (s.station n).silent = true then missed .never false
        else s.tagged ((missed .never true).raise .fault 15 (s.station n).kind.unitCode n)))) ∧
  (∀ (s : State) (t : Fin 6),
    let told := s.sendArrest (.table t)
    ((s.table t).state = .fault → s.enterFault t = told) ∧
    ((s.table t).state ≠ .fault →
      s.enterFault t = State.endMarks (State.modTable { told with hold := s.hold.filter fun e => e.unit ≠ .table t } t
        fun x => { x with state := .fault, stall := 0, linger := 0 }) (s.table t).config.marker) ∧
    (s.stationOf (.table t) = none → told = s) ∧
    ∀ n, s.stationOf (.table t) = some n → told = s.originate .f 0x13#8 (BitVec.ofNat 8 n) []) ∧
  (∀ (s : State) (n : Nat),
    let stale := s.modStation n fun x => { x with freshness := .stale }
    s.becomeStale n =
      (stale.loseUnit (s.station n).kind).raise .fault 14 (s.station n).kind.unitCode n) ∧
  (∀ (s : State) (m : Fin 4),
    let marked := (s.modChannel (carriageOf m) fun a => { a with resume := true }).modMarker m fun k =>
      { k with resume := true }
    ((s.marker m).line = none → s.loseUnit (.marker m) = marked) ∧
    ∀ l, (s.marker m).line = some l →
      let lost := (marked.modMarker m fun k => { k with line := none }).raise .fault 13 (0x20 + m.val) l.id.toNat
      (s.boundTable m = none → s.loseUnit (.marker m) = lost) ∧
      ∀ t, s.boundTable m = some t → s.loseUnit (.marker m) = lost.enterFault t) ∧
  ∀ (n : Nat) (s : State), s.powered = true → s.Settled → n < 64 → (s.station n).polled = true →
    (s.station n).missLimit ≤ min 15 ((s.station n).misses + 1) → (s.station n).freshness = .fresh →
    exec (.stationStale n) s = .next (s.tagged ((s.modStation n fun x =>
      { x with polled := false, misses := min 15 (x.misses + 1) }).becomeStale n))

/-- NOT_STARTED, OP_TIMEOUT and HOLD_EXPIRED. A MOVE in flight that has not moved and has reached its start limit ends
NOT_STARTED, a LIFT or LOWER that has reached its operation limit ends OP_TIMEOUT, each with its last result and one
FAULT notice, the load untouched; a HELD operation at its hold limit leaves the Hold List with ANSWER REFUSED and then
a REFUSAL notice (notes/assumptions/35.md), reason HOLD_EXPIRED, and its yield requests are withdrawn; in STOPPING an
end may bring HALTED. Where the limit is not reached, and for a crane whose slot holds no such operation, the command
changes nothing. The commands standing apart from the boundary are the model's (notes/assumptions/11.md). (R38, R39,
R52, R54, R57, R98, R102, R105, R173) -/
def Obligations.CraneLimitsEndOperations : Prop :=
  (∀ (c : Fin 4) (s : State), s.powered = true → s.Settled →
    let since (op : OpRecord) := (s.cycle - op.entry).toNat
    let ended (op : OpRecord) (e : OpEnd) :=
      s.modCrane c fun k => { k with slot := .empty, last := some ⟨e, op.operation.code, s.cycle⟩ }
    (∀ op tb tt, (s.crane c).slot = .inFlight op → op.operation = .move tb tt → s.runState ≠ .stopping →
      exec (.notStarted c) s =
        if op.moved = false ∧ (s.crane c).config.startLimit ≤ since op then
          .next (s.tagged ((ended op .notStarted).raise .fault 5 c.val (s.crane c).config.startLimit))
        else .next s) ∧
    (∀ op, (s.crane c).slot = .inFlight op → (∀ tb tt, op.operation ≠ .move tb tt) → s.runState ≠ .stopping →
      exec (.notStarted c) s = .next s ∧
      exec (.opTimeout c) s =
        if (s.crane c).config.opLimit ≤ since op then
          .next (s.tagged ((ended op .opTimeout).raise .fault 6 c.val (s.opPiece c op)))
        else .next s) ∧
    (∀ op copy, (s.crane c).slot = .held op copy → s.runState ≠ .stopping → (∀ t : Fin 6, c ∉ (s.table t).yielders) →
      exec (.holdExpired c) s =
        if (s.crane c).config.holdLimit ≤ since op then
          .next (s.tagged (((State.answerOp { s with hold := s.hold.filter fun e => e.unit ≠ .crane c } op .refused
            (some .holdExpired)).raise .refusal 8 c.val op.source.toNat).modCrane c fun k =>
              { k with slot := .empty }))
        else .next s) ∧
    ((s.crane c).slot = .empty → exec (.notStarted c) s = .next s ∧ exec (.opTimeout c) s = .next s ∧
      exec (.holdExpired c) s = .next s)) ∧
  ∀ (c : Fin 4) (s : State), s.powered = true → s.Settled →
    let since (op : OpRecord) := (s.cycle - op.entry).toNat
    let ended (op : OpRecord) (e : OpEnd) :=
      s.modCrane c fun k => { k with slot := .empty, last := some ⟨e, op.operation.code, s.cycle⟩ }
    (∀ op tb tt, (s.crane c).slot = .inFlight op → op.operation = .move tb tt →
      exec (.opTimeout c) s = .next s ∧
      (op.moved = true ∨ since op < (s.crane c).config.startLimit → exec (.notStarted c) s = .next s) ∧
      (op.moved = false → (s.crane c).config.startLimit ≤ since op →
        exec (.notStarted c) s = .next (s.tagged (State.finish
          ((ended op .notStarted).raise .fault 5 c.val (s.crane c).config.startLimit))))) ∧
    (∀ op, (s.crane c).slot = .inFlight op → exec (.holdExpired c) s = .next s ∧
      ((∀ tb tt, op.operation ≠ .move tb tt) → exec (.notStarted c) s = .next s) ∧
      (since op < (s.crane c).config.opLimit → exec (.opTimeout c) s = .next s) ∧
      ((∀ tb tt, op.operation ≠ .move tb tt) → (s.crane c).config.opLimit ≤ since op →
        exec (.opTimeout c) s = .next (s.tagged (State.finish
          ((ended op .opTimeout).raise .fault 6 c.val (s.opPiece c op)))))) ∧
    ∀ op copy, (s.crane c).slot = .held op copy →
      exec (.notStarted c) s = .next s ∧ exec (.opTimeout c) s = .next s ∧
      ((s.crane c).config.holdLimit ≤ since op →
        exec (.holdExpired c) s = .next (s.tagged (State.finish
          ((s.dropHeld c .holdExpired true).1.perform (s.dropHeld c .holdExpired true).2)))) ∧
      (since op < (s.crane c).config.holdLimit → exec (.holdExpired c) s = .next s)

/-- STALL, LINGER_EXPIRY, ARC_OVERRUN and ARC_NO_START. A counting stall timer at its limit raises STALL once. A
linger that has run out, or a requester at a table in HEAD_ERROR that holds its permit, drops the permit: an ACTIVE
table is QUEUED or IDLE, and the Hold List is evaluated. At a FRESH controller, with the arc ON past the oldest
cutting record's limit, or an ignite watch at its limit: the FAULT notice, the in-flight list emptied, the watch
cleared, one ARREST, and the table in FAULT, out of the Hold List, its marks ended; with the arc OFF a table that
holds its permit then drops it, the list is evaluated, and the head is processed. A table in FAULT already only sends
the ARREST and stays. Elsewhere the commands change nothing. The commands standing apart from boundary and sample, and
the condition of a FRESH controller on them, are the model's (notes/assumptions/11.md). (R82, R83, R84, R94, R112,
R115, R117, R118, R119, R139) -/
def Obligations.TableTimersAndArcChecksAct : Prop :=
  ((∀ (t : Fin 6) (s : State), s.powered = true → s.Settled →
    let x := s.table t
    let faulted (u : State) (base : CycleNo) :=
      let v := (((u.modTable t fun y =>
        { y with released := y.done, flights := [], state := .fault, stall := 0, linger := 0 }).modArc t fun a =>
        { a with watch := none, base := base }).sendArrest (.table t))
      State.endMarks { v with hold := v.hold.filter fun e => e.unit ≠ .table t } x.config.marker
    (exec (.stall t) s =
      if s.runState = .running ∧ (x.state = .active ∨ x.state = .permitWait) ∧ x.queue ≠ [] ∧
          x.config.stallLimit ≤ x.stall ∧ x.stallSent = false then
        .next (s.tagged ((s.modTable t fun y => { y with stallSent := true }).raise .flow 3 (0x10 + t.val)
          x.queue.length))
      else .next s) ∧
    (s.lingerDue t = false → exec (.lingerExpiry t) s = .next s) ∧
    (s.lingerDue t = true → s.hold = [] → exec (.lingerExpiry t) s = .next ((s.dropPermit t).modTable t fun y =>
      { y with state := if y.state = .headError then .headError else if y.queue = [] then .idle else .queued,
               stall := 0, linger := 0 })) ∧
    (s.isFresh (.table t) = false ∨ s.arcOverrunDue t = false → exec (.arcOverrun t) s = .next s) ∧
    (∀ f rest, s.isFresh (.table t) = true → x.flights = f :: rest → f.kind.isCutting = true →
      (s.arc t).arc.level = true → f.arcLimit < (s.cycle - (s.arc t).base).toNat → x.state ≠ .fault →
      exec (.arcOverrun t) s =
        .next (s.tagged (faulted (s.raise .fault 11 (0x10 + t.val) f.segment.toNat) s.cycle))) ∧
    (s.isFresh (.table t) = false ∨ s.arcNoStartDue t = false → exec (.arcNoStart t) s = .next s) ∧
    ∀ segment start, s.isFresh (.table t) = true → (s.arc t).watch = some (segment, start) →
      x.config.ignite ≤ (s.cycle - start).toNat → (s.arc t).arc.level = true → x.state ≠ .fault →
      exec (.arcNoStart t) s =
        .next (s.tagged (faulted (s.raise .fault 12 (0x10 + t.val) segment.toNat)
          (if x.flights = [] then (s.arc t).base else s.cycle)))) ∧
  ∀ (t : Fin 6) (s : State), s.powered = true → s.Settled →
    let x := s.table t
    let faulted (u : State) (base : CycleNo) :=
      ((u.modTable t fun y => { y with released := y.done, flights := [] }).modArc t fun a =>
        { a with watch := none, base := base }).enterFault t
    let ended (v : State) : State :=
      if x.permit = true ∧ (s.arc t).arc.level = false then (v.dropPermit t).perform [.eval, .act t]
      else v.perform [.act t]
    (s.lingerDue t = true ↔ s.lingerCounts t = true ∧
      (x.config.linger ≤ x.linger ∨ (x.state = .headError ∧ x.yielders ≠ []))) ∧
    (s.lingerDue t = true → exec (.lingerExpiry t) s = .next (s.tagged (State.finish (s.perform [.tail t]))) ∧
      Work.perform (.tail t) s = ((s.dropPermit t).modTable t fun y =>
        { y with state := if y.state = .headError then .headError else if y.queue = [] then .idle else .queued },
        [.eval])) ∧
    (∀ f rest, s.isFresh (.table t) = true → x.flights = f :: rest → f.kind.isCutting = true →
      (s.arc t).arc.level = true → f.arcLimit < (s.cycle - (s.arc t).base).toNat →
      exec (.arcOverrun t) s = .next (s.tagged (State.finish
        (ended (faulted (s.raise .fault 11 (0x10 + t.val) f.segment.toNat) s.cycle))))) ∧
    ∀ segment start, s.isFresh (.table t) = true → (s.arc t).watch = some (segment, start) →
      x.config.ignite ≤ (s.cycle - start).toNat →
      exec (.arcNoStart t) s = .next (s.tagged (State.finish
        (ended (faulted (s.raise .fault 12 (0x10 + t.val) segment.toNat)
          (if (s.arc t).arc.level = true ∧ x.flights ≠ [] then s.cycle else (s.arc t).base)))))) ∧
  ∀ (s : State) (t : Fin 6),
    (s.arcOverrunDue t = true ↔ ∃ f rest, (s.table t).flights = f :: rest ∧ (s.arc t).arc.level = true ∧
      (f.kind = .pierceCut ∨ f.kind = .cut ∨ f.kind = .traverse) ∧ f.arcLimit < (s.cycle - (s.arc t).base).toNat) ∧
    (s.arcNoStartDue t = true ↔ ∃ w, (s.arc t).watch = some w ∧ (s.table t).config.ignite ≤ (s.cycle - w.2).toNat)

/-- PORT_F_LINK_DOWN, PORT_F_LINK_UP, PORT_U_LINK_DOWN and PORT_U_LINK_UP. A link state that is there already is no
event. A change sets the link state and its change flag. Port F's fall also disables the port with its enable-change
flag where it was enabled, counts one loss to at most 255, leaves no FRESH field station, and stops a run with cause
LINK_LOST; in HALTED with no FRESH field station it raises one GUARD notice LINK_LOST and changes nothing more. A fall
makes every FRESH field station STALE, in ascending order, its miss count at its limit, its unit told; then the GUARD
notice with the run state as value as it was before the fall (notes/assumptions/34.md), then the stop. That a link
state already there is no event is the model's reading (notes/assumptions/16.md). The ascending order of the stations
is the model's choice (notes/assumptions/23.md). (R166, R172, R175, R177, R202, R205) -/
def Obligations.LinksRiseAndFall : Prop :=
  ((∀ s : State, s.powered = true → s.Settled →
    (s.linkU = false → exec .portULinkDown s = .next s) ∧ (s.linkU = true → exec .portULinkUp s = .next s) ∧
    (s.linkF = false → exec .portFLinkDown s = .next s) ∧ (s.linkF = true → exec .portFLinkUp s = .next s) ∧
    (s.linkU = true → exec .portULinkDown s = .next (s.tagged { s with linkU := false, linkChangeU := true })) ∧
    (s.linkU = false → exec .portULinkUp s = .next (s.tagged { s with linkU := true, linkChangeU := true })) ∧
    (s.linkF = false → exec .portFLinkUp s = .next (s.tagged { s with linkF := true, linkChangeF := true })) ∧
    (s.linkF = true → s.runState = .halted →
      (∀ n < 64, (s.station n).side = .field → (s.station n).freshness ≠ .fresh) →
      exec .portFLinkDown s = .next (s.tagged (State.raise
        { s with linkF := false, linkChangeF := true, enableF := false,
                 enableChangeF := s.enableChangeF || s.enableF, lossCount := min 255 (s.lossCount + 1) }
        .guard 4 0x41 0)))) ∧
  ∀ s : State, s.powered = true → s.linkF = true →
    ∃ t : State, exec .portFLinkDown s = .next t ∧ t.linkF = false ∧ t.linkChangeF = true ∧ t.enableF = false ∧
      t.enableChangeF = (s.enableChangeF || s.enableF) ∧ t.lossCount = min 255 (s.lossCount + 1) ∧
      (∀ n < 64, (t.station n).side = .field → (t.station n).freshness ≠ .fresh) ∧
      (s.runState = .running → t.runState ≠ .running ∧ t.stopCause = .linkLost)) ∧
  ∀ s : State, s.powered = true → s.Settled → s.linkF = true →
    let down := { s with linkF := false, linkChangeF := true, enableF := false,
                         enableChangeF := s.enableChangeF || s.enableF, lossCount := min 255 (s.lossCount + 1) }
    let lost := (List.range 64).foldl (fun u n =>
      if (u.station n).side = .field ∧ (u.station n).freshness = .fresh then
        (u.modStation n fun x => { x with misses := x.missLimit }).becomeStale n
      else u) down
    (s.runState = .halted → exec .portFLinkDown s = .next (s.tagged (lost.raise .guard 4 0x41 0))) ∧
    (s.runState = .running → exec .portFLinkDown s =
      .next (s.tagged (State.finish ((lost.raise .guard 4 0x41 1).enterStopping .linkLost)))) ∧
    (s.runState = .stopping → exec .portFLinkDown s =
      .next (s.tagged (State.finish { lost.raise .guard 4 0x41 2 with stopCause := .linkLost })))
end

