-- ==== Sys2Proof/Laws/State.lean ====
section
/-! SUPPORT. What each named update of a unit's record leaves of the state: one lemma for each field of State and each
update, and what the record reads as afterwards. -/

namespace Sys2Proof.Machine

variable (s : State)

/-! ## Banks -/

theorem bankGet_bankMod_same {α : Type} {n : Nat} (v : Vector α n) (i : Fin n) (f : α → α) :
    bankGet (bankMod v i f) i = f (bankGet v i) := by simp [bankGet, bankMod]

theorem bankGet_bankMod_other {α : Type} {n : Nat} (v : Vector α n) (i j : Fin n) (f : α → α) (h : i ≠ j) :
    bankGet (bankMod v i f) j = bankGet v j := by
  have : i.val ≠ j.val := fun e => h (Fin.ext e)
  simp [bankGet, bankMod, this]

theorem bankMod_id {α : Type} {n : Nat} (v : Vector α n) (i : Fin n) (f : α → α) (h : f (bankGet v i) = bankGet v i) :
    bankMod v i f = v := by
  have h' : f v[i.val] = v[i.val] := h
  simp [bankMod, h']


/-! ## modCrane -/

@[simp] theorem State.modCrane_powered (c : Fin 4) (f : Crane → Crane) : (s.modCrane c f).powered = s.powered := rfl
@[simp] theorem State.modCrane_linkU (c : Fin 4) (f : Crane → Crane) : (s.modCrane c f).linkU = s.linkU := rfl
@[simp] theorem State.modCrane_linkF (c : Fin 4) (f : Crane → Crane) : (s.modCrane c f).linkF = s.linkF := rfl
@[simp] theorem State.modCrane_linkChangeU (c : Fin 4) (f : Crane → Crane) : (s.modCrane c f).linkChangeU = s.linkChangeU := rfl
@[simp] theorem State.modCrane_linkChangeF (c : Fin 4) (f : Crane → Crane) : (s.modCrane c f).linkChangeF = s.linkChangeF := rfl
@[simp] theorem State.modCrane_enableF (c : Fin 4) (f : Crane → Crane) : (s.modCrane c f).enableF = s.enableF := rfl
@[simp] theorem State.modCrane_enableChangeF (c : Fin 4) (f : Crane → Crane) : (s.modCrane c f).enableChangeF = s.enableChangeF := rfl
@[simp] theorem State.modCrane_origin (c : Fin 4) (f : Crane → Crane) : (s.modCrane c f).origin = s.origin := rfl
@[simp] theorem State.modCrane_ownStation (c : Fin 4) (f : Crane → Crane) : (s.modCrane c f).ownStation = s.ownStation := rfl
@[simp] theorem State.modCrane_report (c : Fin 4) (f : Crane → Crane) : (s.modCrane c f).report = s.report := rfl
@[simp] theorem State.modCrane_policy (c : Fin 4) (f : Crane → Crane) : (s.modCrane c f).policy = s.policy := rfl
@[simp] theorem State.modCrane_notices (c : Fin 4) (f : Crane → Crane) : (s.modCrane c f).notices = s.notices := rfl
@[simp] theorem State.modCrane_statusTag (c : Fin 4) (f : Crane → Crane) : (s.modCrane c f).statusTag = s.statusTag := rfl
@[simp] theorem State.modCrane_resetCount (c : Fin 4) (f : Crane → Crane) : (s.modCrane c f).resetCount = s.resetCount := rfl
@[simp] theorem State.modCrane_lossCount (c : Fin 4) (f : Crane → Crane) : (s.modCrane c f).lossCount = s.lossCount := rfl
@[simp] theorem State.modCrane_runState (c : Fin 4) (f : Crane → Crane) : (s.modCrane c f).runState = s.runState := rfl
@[simp] theorem State.modCrane_stepFlag (c : Fin 4) (f : Crane → Crane) : (s.modCrane c f).stepFlag = s.stepFlag := rfl
@[simp] theorem State.modCrane_stepConsumed (c : Fin 4) (f : Crane → Crane) : (s.modCrane c f).stepConsumed = s.stepConsumed := rfl
@[simp] theorem State.modCrane_stepDone (c : Fin 4) (f : Crane → Crane) : (s.modCrane c f).stepDone = s.stepDone := rfl
@[simp] theorem State.modCrane_stopCause (c : Fin 4) (f : Crane → Crane) : (s.modCrane c f).stopCause = s.stopCause := rfl
@[simp] theorem State.modCrane_cycle (c : Fin 4) (f : Crane → Crane) : (s.modCrane c f).cycle = s.cycle := rfl
@[simp] theorem State.modCrane_trim (c : Fin 4) (f : Crane → Crane) : (s.modCrane c f).trim = s.trim := rfl
@[simp] theorem State.modCrane_cycleTrim (c : Fin 4) (f : Crane → Crane) : (s.modCrane c f).cycleTrim = s.cycleTrim := rfl
@[simp] theorem State.modCrane_started (c : Fin 4) (f : Crane → Crane) : (s.modCrane c f).started = s.started := rfl
@[simp] theorem State.modCrane_schedule (c : Fin 4) (f : Crane → Crane) : (s.modCrane c f).schedule = s.schedule := rfl
@[simp] theorem State.modCrane_stations (c : Fin 4) (f : Crane → Crane) : (s.modCrane c f).stations = s.stations := rfl
@[simp] theorem State.modCrane_geometrySet (c : Fin 4) (f : Crane → Crane) : (s.modCrane c f).geometrySet = s.geometrySet := rfl
@[simp] theorem State.modCrane_bridge (c : Fin 4) (f : Crane → Crane) : (s.modCrane c f).bridge = s.bridge := rfl
@[simp] theorem State.modCrane_trolley (c : Fin 4) (f : Crane → Crane) : (s.modCrane c f).trolley = s.trolley := rfl
@[simp] theorem State.modCrane_zones (c : Fin 4) (f : Crane → Crane) : (s.modCrane c f).zones = s.zones := rfl
@[simp] theorem State.modCrane_channels (c : Fin 4) (f : Crane → Crane) : (s.modCrane c f).channels = s.channels := rfl
@[simp] theorem State.modCrane_hold (c : Fin 4) (f : Crane → Crane) : (s.modCrane c f).hold = s.hold := rfl
@[simp] theorem State.modCrane_tables (c : Fin 4) (f : Crane → Crane) : (s.modCrane c f).tables = s.tables := rfl
@[simp] theorem State.modCrane_arcs (c : Fin 4) (f : Crane → Crane) : (s.modCrane c f).arcs = s.arcs := rfl
@[simp] theorem State.modCrane_markers (c : Fin 4) (f : Crane → Crane) : (s.modCrane c f).markers = s.markers := rfl
@[simp] theorem State.modCrane_stock (c : Fin 4) (f : Crane → Crane) : (s.modCrane c f).stock = s.stock := rfl
@[simp] theorem State.modCrane_stockCounter (c : Fin 4) (f : Crane → Crane) : (s.modCrane c f).stockCounter = s.stockCounter := rfl
@[simp] theorem State.modCrane_sentU (c : Fin 4) (f : Crane → Crane) : (s.modCrane c f).sentU = s.sentU := rfl
@[simp] theorem State.modCrane_sentF (c : Fin 4) (f : Crane → Crane) : (s.modCrane c f).sentF = s.sentF := rfl
@[simp] theorem State.modCrane_pending (c : Fin 4) (f : Crane → Crane) : (s.modCrane c f).pending = s.pending := rfl
@[simp] theorem State.modCrane_table (c : Fin 4) (f : Crane → Crane) (x : Fin 6) : (s.modCrane c f).table x = s.table x := rfl
@[simp] theorem State.modCrane_arc (c : Fin 4) (f : Crane → Crane) (x : Fin 6) : (s.modCrane c f).arc x = s.arc x := rfl
@[simp] theorem State.modCrane_marker (c : Fin 4) (f : Crane → Crane) (x : Fin 4) : (s.modCrane c f).marker x = s.marker x := rfl
@[simp] theorem State.modCrane_channel (c : Fin 4) (f : Crane → Crane) (x : Fin 12) : (s.modCrane c f).channel x = s.channel x := rfl
@[simp] theorem State.modCrane_notice (c : Fin 4) (f : Crane → Crane) (x : NoticeClass) : (s.modCrane c f).notice x = s.notice x := rfl
@[simp] theorem State.modCrane_station (c : Fin 4) (f : Crane → Crane) (x : Nat) : (s.modCrane c f).station x = s.station x := rfl
@[simp] theorem State.modCrane_zone (c : Fin 4) (f : Crane → Crane) (x : Nat) : (s.modCrane c f).zone x = s.zone x := rfl
@[simp] theorem State.modCrane_scheduleEntry (c : Fin 4) (f : Crane → Crane) (x : Fin 32) : (s.modCrane c f).scheduleEntry x = s.scheduleEntry x := rfl

/-! ## modTable -/

@[simp] theorem State.modTable_powered (t : Fin 6) (f : Table → Table) : (s.modTable t f).powered = s.powered := rfl
@[simp] theorem State.modTable_linkU (t : Fin 6) (f : Table → Table) : (s.modTable t f).linkU = s.linkU := rfl
@[simp] theorem State.modTable_linkF (t : Fin 6) (f : Table → Table) : (s.modTable t f).linkF = s.linkF := rfl
@[simp] theorem State.modTable_linkChangeU (t : Fin 6) (f : Table → Table) : (s.modTable t f).linkChangeU = s.linkChangeU := rfl
@[simp] theorem State.modTable_linkChangeF (t : Fin 6) (f : Table → Table) : (s.modTable t f).linkChangeF = s.linkChangeF := rfl
@[simp] theorem State.modTable_enableF (t : Fin 6) (f : Table → Table) : (s.modTable t f).enableF = s.enableF := rfl
@[simp] theorem State.modTable_enableChangeF (t : Fin 6) (f : Table → Table) : (s.modTable t f).enableChangeF = s.enableChangeF := rfl
@[simp] theorem State.modTable_origin (t : Fin 6) (f : Table → Table) : (s.modTable t f).origin = s.origin := rfl
@[simp] theorem State.modTable_ownStation (t : Fin 6) (f : Table → Table) : (s.modTable t f).ownStation = s.ownStation := rfl
@[simp] theorem State.modTable_report (t : Fin 6) (f : Table → Table) : (s.modTable t f).report = s.report := rfl
@[simp] theorem State.modTable_policy (t : Fin 6) (f : Table → Table) : (s.modTable t f).policy = s.policy := rfl
@[simp] theorem State.modTable_notices (t : Fin 6) (f : Table → Table) : (s.modTable t f).notices = s.notices := rfl
@[simp] theorem State.modTable_statusTag (t : Fin 6) (f : Table → Table) : (s.modTable t f).statusTag = s.statusTag := rfl
@[simp] theorem State.modTable_resetCount (t : Fin 6) (f : Table → Table) : (s.modTable t f).resetCount = s.resetCount := rfl
@[simp] theorem State.modTable_lossCount (t : Fin 6) (f : Table → Table) : (s.modTable t f).lossCount = s.lossCount := rfl
@[simp] theorem State.modTable_runState (t : Fin 6) (f : Table → Table) : (s.modTable t f).runState = s.runState := rfl
@[simp] theorem State.modTable_stepFlag (t : Fin 6) (f : Table → Table) : (s.modTable t f).stepFlag = s.stepFlag := rfl
@[simp] theorem State.modTable_stepConsumed (t : Fin 6) (f : Table → Table) : (s.modTable t f).stepConsumed = s.stepConsumed := rfl
@[simp] theorem State.modTable_stepDone (t : Fin 6) (f : Table → Table) : (s.modTable t f).stepDone = s.stepDone := rfl
@[simp] theorem State.modTable_stopCause (t : Fin 6) (f : Table → Table) : (s.modTable t f).stopCause = s.stopCause := rfl
@[simp] theorem State.modTable_cycle (t : Fin 6) (f : Table → Table) : (s.modTable t f).cycle = s.cycle := rfl
@[simp] theorem State.modTable_trim (t : Fin 6) (f : Table → Table) : (s.modTable t f).trim = s.trim := rfl
@[simp] theorem State.modTable_cycleTrim (t : Fin 6) (f : Table → Table) : (s.modTable t f).cycleTrim = s.cycleTrim := rfl
@[simp] theorem State.modTable_started (t : Fin 6) (f : Table → Table) : (s.modTable t f).started = s.started := rfl
@[simp] theorem State.modTable_schedule (t : Fin 6) (f : Table → Table) : (s.modTable t f).schedule = s.schedule := rfl
@[simp] theorem State.modTable_stations (t : Fin 6) (f : Table → Table) : (s.modTable t f).stations = s.stations := rfl
@[simp] theorem State.modTable_geometrySet (t : Fin 6) (f : Table → Table) : (s.modTable t f).geometrySet = s.geometrySet := rfl
@[simp] theorem State.modTable_bridge (t : Fin 6) (f : Table → Table) : (s.modTable t f).bridge = s.bridge := rfl
@[simp] theorem State.modTable_trolley (t : Fin 6) (f : Table → Table) : (s.modTable t f).trolley = s.trolley := rfl
@[simp] theorem State.modTable_zones (t : Fin 6) (f : Table → Table) : (s.modTable t f).zones = s.zones := rfl
@[simp] theorem State.modTable_channels (t : Fin 6) (f : Table → Table) : (s.modTable t f).channels = s.channels := rfl
@[simp] theorem State.modTable_cranes (t : Fin 6) (f : Table → Table) : (s.modTable t f).cranes = s.cranes := rfl
@[simp] theorem State.modTable_hold (t : Fin 6) (f : Table → Table) : (s.modTable t f).hold = s.hold := rfl
@[simp] theorem State.modTable_arcs (t : Fin 6) (f : Table → Table) : (s.modTable t f).arcs = s.arcs := rfl
@[simp] theorem State.modTable_markers (t : Fin 6) (f : Table → Table) : (s.modTable t f).markers = s.markers := rfl
@[simp] theorem State.modTable_stock (t : Fin 6) (f : Table → Table) : (s.modTable t f).stock = s.stock := rfl
@[simp] theorem State.modTable_stockCounter (t : Fin 6) (f : Table → Table) : (s.modTable t f).stockCounter = s.stockCounter := rfl
@[simp] theorem State.modTable_sentU (t : Fin 6) (f : Table → Table) : (s.modTable t f).sentU = s.sentU := rfl
@[simp] theorem State.modTable_sentF (t : Fin 6) (f : Table → Table) : (s.modTable t f).sentF = s.sentF := rfl
@[simp] theorem State.modTable_pending (t : Fin 6) (f : Table → Table) : (s.modTable t f).pending = s.pending := rfl
@[simp] theorem State.modTable_crane (t : Fin 6) (f : Table → Table) (x : Fin 4) : (s.modTable t f).crane x = s.crane x := rfl
@[simp] theorem State.modTable_arc (t : Fin 6) (f : Table → Table) (x : Fin 6) : (s.modTable t f).arc x = s.arc x := rfl
@[simp] theorem State.modTable_marker (t : Fin 6) (f : Table → Table) (x : Fin 4) : (s.modTable t f).marker x = s.marker x := rfl
@[simp] theorem State.modTable_channel (t : Fin 6) (f : Table → Table) (x : Fin 12) : (s.modTable t f).channel x = s.channel x := rfl
@[simp] theorem State.modTable_notice (t : Fin 6) (f : Table → Table) (x : NoticeClass) : (s.modTable t f).notice x = s.notice x := rfl
@[simp] theorem State.modTable_station (t : Fin 6) (f : Table → Table) (x : Nat) : (s.modTable t f).station x = s.station x := rfl
@[simp] theorem State.modTable_zone (t : Fin 6) (f : Table → Table) (x : Nat) : (s.modTable t f).zone x = s.zone x := rfl
@[simp] theorem State.modTable_scheduleEntry (t : Fin 6) (f : Table → Table) (x : Fin 32) : (s.modTable t f).scheduleEntry x = s.scheduleEntry x := rfl

/-! ## modArc -/

@[simp] theorem State.modArc_powered (t : Fin 6) (f : Arc → Arc) : (s.modArc t f).powered = s.powered := rfl
@[simp] theorem State.modArc_linkU (t : Fin 6) (f : Arc → Arc) : (s.modArc t f).linkU = s.linkU := rfl
@[simp] theorem State.modArc_linkF (t : Fin 6) (f : Arc → Arc) : (s.modArc t f).linkF = s.linkF := rfl
@[simp] theorem State.modArc_linkChangeU (t : Fin 6) (f : Arc → Arc) : (s.modArc t f).linkChangeU = s.linkChangeU := rfl
@[simp] theorem State.modArc_linkChangeF (t : Fin 6) (f : Arc → Arc) : (s.modArc t f).linkChangeF = s.linkChangeF := rfl
@[simp] theorem State.modArc_enableF (t : Fin 6) (f : Arc → Arc) : (s.modArc t f).enableF = s.enableF := rfl
@[simp] theorem State.modArc_enableChangeF (t : Fin 6) (f : Arc → Arc) : (s.modArc t f).enableChangeF = s.enableChangeF := rfl
@[simp] theorem State.modArc_origin (t : Fin 6) (f : Arc → Arc) : (s.modArc t f).origin = s.origin := rfl
@[simp] theorem State.modArc_ownStation (t : Fin 6) (f : Arc → Arc) : (s.modArc t f).ownStation = s.ownStation := rfl
@[simp] theorem State.modArc_report (t : Fin 6) (f : Arc → Arc) : (s.modArc t f).report = s.report := rfl
@[simp] theorem State.modArc_policy (t : Fin 6) (f : Arc → Arc) : (s.modArc t f).policy = s.policy := rfl
@[simp] theorem State.modArc_notices (t : Fin 6) (f : Arc → Arc) : (s.modArc t f).notices = s.notices := rfl
@[simp] theorem State.modArc_statusTag (t : Fin 6) (f : Arc → Arc) : (s.modArc t f).statusTag = s.statusTag := rfl
@[simp] theorem State.modArc_resetCount (t : Fin 6) (f : Arc → Arc) : (s.modArc t f).resetCount = s.resetCount := rfl
@[simp] theorem State.modArc_lossCount (t : Fin 6) (f : Arc → Arc) : (s.modArc t f).lossCount = s.lossCount := rfl
@[simp] theorem State.modArc_runState (t : Fin 6) (f : Arc → Arc) : (s.modArc t f).runState = s.runState := rfl
@[simp] theorem State.modArc_stepFlag (t : Fin 6) (f : Arc → Arc) : (s.modArc t f).stepFlag = s.stepFlag := rfl
@[simp] theorem State.modArc_stepConsumed (t : Fin 6) (f : Arc → Arc) : (s.modArc t f).stepConsumed = s.stepConsumed := rfl
@[simp] theorem State.modArc_stepDone (t : Fin 6) (f : Arc → Arc) : (s.modArc t f).stepDone = s.stepDone := rfl
@[simp] theorem State.modArc_stopCause (t : Fin 6) (f : Arc → Arc) : (s.modArc t f).stopCause = s.stopCause := rfl
@[simp] theorem State.modArc_cycle (t : Fin 6) (f : Arc → Arc) : (s.modArc t f).cycle = s.cycle := rfl
@[simp] theorem State.modArc_trim (t : Fin 6) (f : Arc → Arc) : (s.modArc t f).trim = s.trim := rfl
@[simp] theorem State.modArc_cycleTrim (t : Fin 6) (f : Arc → Arc) : (s.modArc t f).cycleTrim = s.cycleTrim := rfl
@[simp] theorem State.modArc_started (t : Fin 6) (f : Arc → Arc) : (s.modArc t f).started = s.started := rfl
@[simp] theorem State.modArc_schedule (t : Fin 6) (f : Arc → Arc) : (s.modArc t f).schedule = s.schedule := rfl
@[simp] theorem State.modArc_stations (t : Fin 6) (f : Arc → Arc) : (s.modArc t f).stations = s.stations := rfl
@[simp] theorem State.modArc_geometrySet (t : Fin 6) (f : Arc → Arc) : (s.modArc t f).geometrySet = s.geometrySet := rfl
@[simp] theorem State.modArc_bridge (t : Fin 6) (f : Arc → Arc) : (s.modArc t f).bridge = s.bridge := rfl
@[simp] theorem State.modArc_trolley (t : Fin 6) (f : Arc → Arc) : (s.modArc t f).trolley = s.trolley := rfl
@[simp] theorem State.modArc_zones (t : Fin 6) (f : Arc → Arc) : (s.modArc t f).zones = s.zones := rfl
@[simp] theorem State.modArc_channels (t : Fin 6) (f : Arc → Arc) : (s.modArc t f).channels = s.channels := rfl
@[simp] theorem State.modArc_cranes (t : Fin 6) (f : Arc → Arc) : (s.modArc t f).cranes = s.cranes := rfl
@[simp] theorem State.modArc_hold (t : Fin 6) (f : Arc → Arc) : (s.modArc t f).hold = s.hold := rfl
@[simp] theorem State.modArc_tables (t : Fin 6) (f : Arc → Arc) : (s.modArc t f).tables = s.tables := rfl
@[simp] theorem State.modArc_markers (t : Fin 6) (f : Arc → Arc) : (s.modArc t f).markers = s.markers := rfl
@[simp] theorem State.modArc_stock (t : Fin 6) (f : Arc → Arc) : (s.modArc t f).stock = s.stock := rfl
@[simp] theorem State.modArc_stockCounter (t : Fin 6) (f : Arc → Arc) : (s.modArc t f).stockCounter = s.stockCounter := rfl
@[simp] theorem State.modArc_sentU (t : Fin 6) (f : Arc → Arc) : (s.modArc t f).sentU = s.sentU := rfl
@[simp] theorem State.modArc_sentF (t : Fin 6) (f : Arc → Arc) : (s.modArc t f).sentF = s.sentF := rfl
@[simp] theorem State.modArc_pending (t : Fin 6) (f : Arc → Arc) : (s.modArc t f).pending = s.pending := rfl
@[simp] theorem State.modArc_crane (t : Fin 6) (f : Arc → Arc) (x : Fin 4) : (s.modArc t f).crane x = s.crane x := rfl
@[simp] theorem State.modArc_table (t : Fin 6) (f : Arc → Arc) (x : Fin 6) : (s.modArc t f).table x = s.table x := rfl
@[simp] theorem State.modArc_marker (t : Fin 6) (f : Arc → Arc) (x : Fin 4) : (s.modArc t f).marker x = s.marker x := rfl
@[simp] theorem State.modArc_channel (t : Fin 6) (f : Arc → Arc) (x : Fin 12) : (s.modArc t f).channel x = s.channel x := rfl
@[simp] theorem State.modArc_notice (t : Fin 6) (f : Arc → Arc) (x : NoticeClass) : (s.modArc t f).notice x = s.notice x := rfl
@[simp] theorem State.modArc_station (t : Fin 6) (f : Arc → Arc) (x : Nat) : (s.modArc t f).station x = s.station x := rfl
@[simp] theorem State.modArc_zone (t : Fin 6) (f : Arc → Arc) (x : Nat) : (s.modArc t f).zone x = s.zone x := rfl
@[simp] theorem State.modArc_scheduleEntry (t : Fin 6) (f : Arc → Arc) (x : Fin 32) : (s.modArc t f).scheduleEntry x = s.scheduleEntry x := rfl

/-! ## modMarker -/

@[simp] theorem State.modMarker_powered (m : Fin 4) (f : Marker → Marker) : (s.modMarker m f).powered = s.powered := rfl
@[simp] theorem State.modMarker_linkU (m : Fin 4) (f : Marker → Marker) : (s.modMarker m f).linkU = s.linkU := rfl
@[simp] theorem State.modMarker_linkF (m : Fin 4) (f : Marker → Marker) : (s.modMarker m f).linkF = s.linkF := rfl
@[simp] theorem State.modMarker_linkChangeU (m : Fin 4) (f : Marker → Marker) : (s.modMarker m f).linkChangeU = s.linkChangeU := rfl
@[simp] theorem State.modMarker_linkChangeF (m : Fin 4) (f : Marker → Marker) : (s.modMarker m f).linkChangeF = s.linkChangeF := rfl
@[simp] theorem State.modMarker_enableF (m : Fin 4) (f : Marker → Marker) : (s.modMarker m f).enableF = s.enableF := rfl
@[simp] theorem State.modMarker_enableChangeF (m : Fin 4) (f : Marker → Marker) : (s.modMarker m f).enableChangeF = s.enableChangeF := rfl
@[simp] theorem State.modMarker_origin (m : Fin 4) (f : Marker → Marker) : (s.modMarker m f).origin = s.origin := rfl
@[simp] theorem State.modMarker_ownStation (m : Fin 4) (f : Marker → Marker) : (s.modMarker m f).ownStation = s.ownStation := rfl
@[simp] theorem State.modMarker_report (m : Fin 4) (f : Marker → Marker) : (s.modMarker m f).report = s.report := rfl
@[simp] theorem State.modMarker_policy (m : Fin 4) (f : Marker → Marker) : (s.modMarker m f).policy = s.policy := rfl
@[simp] theorem State.modMarker_notices (m : Fin 4) (f : Marker → Marker) : (s.modMarker m f).notices = s.notices := rfl
@[simp] theorem State.modMarker_statusTag (m : Fin 4) (f : Marker → Marker) : (s.modMarker m f).statusTag = s.statusTag := rfl
@[simp] theorem State.modMarker_resetCount (m : Fin 4) (f : Marker → Marker) : (s.modMarker m f).resetCount = s.resetCount := rfl
@[simp] theorem State.modMarker_lossCount (m : Fin 4) (f : Marker → Marker) : (s.modMarker m f).lossCount = s.lossCount := rfl
@[simp] theorem State.modMarker_runState (m : Fin 4) (f : Marker → Marker) : (s.modMarker m f).runState = s.runState := rfl
@[simp] theorem State.modMarker_stepFlag (m : Fin 4) (f : Marker → Marker) : (s.modMarker m f).stepFlag = s.stepFlag := rfl
@[simp] theorem State.modMarker_stepConsumed (m : Fin 4) (f : Marker → Marker) : (s.modMarker m f).stepConsumed = s.stepConsumed := rfl
@[simp] theorem State.modMarker_stepDone (m : Fin 4) (f : Marker → Marker) : (s.modMarker m f).stepDone = s.stepDone := rfl
@[simp] theorem State.modMarker_stopCause (m : Fin 4) (f : Marker → Marker) : (s.modMarker m f).stopCause = s.stopCause := rfl
@[simp] theorem State.modMarker_cycle (m : Fin 4) (f : Marker → Marker) : (s.modMarker m f).cycle = s.cycle := rfl
@[simp] theorem State.modMarker_trim (m : Fin 4) (f : Marker → Marker) : (s.modMarker m f).trim = s.trim := rfl
@[simp] theorem State.modMarker_cycleTrim (m : Fin 4) (f : Marker → Marker) : (s.modMarker m f).cycleTrim = s.cycleTrim := rfl
@[simp] theorem State.modMarker_started (m : Fin 4) (f : Marker → Marker) : (s.modMarker m f).started = s.started := rfl
@[simp] theorem State.modMarker_schedule (m : Fin 4) (f : Marker → Marker) : (s.modMarker m f).schedule = s.schedule := rfl
@[simp] theorem State.modMarker_stations (m : Fin 4) (f : Marker → Marker) : (s.modMarker m f).stations = s.stations := rfl
@[simp] theorem State.modMarker_geometrySet (m : Fin 4) (f : Marker → Marker) : (s.modMarker m f).geometrySet = s.geometrySet := rfl
@[simp] theorem State.modMarker_bridge (m : Fin 4) (f : Marker → Marker) : (s.modMarker m f).bridge = s.bridge := rfl
@[simp] theorem State.modMarker_trolley (m : Fin 4) (f : Marker → Marker) : (s.modMarker m f).trolley = s.trolley := rfl
@[simp] theorem State.modMarker_zones (m : Fin 4) (f : Marker → Marker) : (s.modMarker m f).zones = s.zones := rfl
@[simp] theorem State.modMarker_channels (m : Fin 4) (f : Marker → Marker) : (s.modMarker m f).channels = s.channels := rfl
@[simp] theorem State.modMarker_cranes (m : Fin 4) (f : Marker → Marker) : (s.modMarker m f).cranes = s.cranes := rfl
@[simp] theorem State.modMarker_hold (m : Fin 4) (f : Marker → Marker) : (s.modMarker m f).hold = s.hold := rfl
@[simp] theorem State.modMarker_tables (m : Fin 4) (f : Marker → Marker) : (s.modMarker m f).tables = s.tables := rfl
@[simp] theorem State.modMarker_arcs (m : Fin 4) (f : Marker → Marker) : (s.modMarker m f).arcs = s.arcs := rfl
@[simp] theorem State.modMarker_stock (m : Fin 4) (f : Marker → Marker) : (s.modMarker m f).stock = s.stock := rfl
@[simp] theorem State.modMarker_stockCounter (m : Fin 4) (f : Marker → Marker) : (s.modMarker m f).stockCounter = s.stockCounter := rfl
@[simp] theorem State.modMarker_sentU (m : Fin 4) (f : Marker → Marker) : (s.modMarker m f).sentU = s.sentU := rfl
@[simp] theorem State.modMarker_sentF (m : Fin 4) (f : Marker → Marker) : (s.modMarker m f).sentF = s.sentF := rfl
@[simp] theorem State.modMarker_pending (m : Fin 4) (f : Marker → Marker) : (s.modMarker m f).pending = s.pending := rfl
@[simp] theorem State.modMarker_crane (m : Fin 4) (f : Marker → Marker) (x : Fin 4) : (s.modMarker m f).crane x = s.crane x := rfl
@[simp] theorem State.modMarker_table (m : Fin 4) (f : Marker → Marker) (x : Fin 6) : (s.modMarker m f).table x = s.table x := rfl
@[simp] theorem State.modMarker_arc (m : Fin 4) (f : Marker → Marker) (x : Fin 6) : (s.modMarker m f).arc x = s.arc x := rfl
@[simp] theorem State.modMarker_channel (m : Fin 4) (f : Marker → Marker) (x : Fin 12) : (s.modMarker m f).channel x = s.channel x := rfl
@[simp] theorem State.modMarker_notice (m : Fin 4) (f : Marker → Marker) (x : NoticeClass) : (s.modMarker m f).notice x = s.notice x := rfl
@[simp] theorem State.modMarker_station (m : Fin 4) (f : Marker → Marker) (x : Nat) : (s.modMarker m f).station x = s.station x := rfl
@[simp] theorem State.modMarker_zone (m : Fin 4) (f : Marker → Marker) (x : Nat) : (s.modMarker m f).zone x = s.zone x := rfl
@[simp] theorem State.modMarker_scheduleEntry (m : Fin 4) (f : Marker → Marker) (x : Fin 32) : (s.modMarker m f).scheduleEntry x = s.scheduleEntry x := rfl

/-! ## modChannel -/

@[simp] theorem State.modChannel_powered (a : Fin 12) (f : Channel → Channel) : (s.modChannel a f).powered = s.powered := rfl
@[simp] theorem State.modChannel_linkU (a : Fin 12) (f : Channel → Channel) : (s.modChannel a f).linkU = s.linkU := rfl
@[simp] theorem State.modChannel_linkF (a : Fin 12) (f : Channel → Channel) : (s.modChannel a f).linkF = s.linkF := rfl
@[simp] theorem State.modChannel_linkChangeU (a : Fin 12) (f : Channel → Channel) : (s.modChannel a f).linkChangeU = s.linkChangeU := rfl
@[simp] theorem State.modChannel_linkChangeF (a : Fin 12) (f : Channel → Channel) : (s.modChannel a f).linkChangeF = s.linkChangeF := rfl
@[simp] theorem State.modChannel_enableF (a : Fin 12) (f : Channel → Channel) : (s.modChannel a f).enableF = s.enableF := rfl
@[simp] theorem State.modChannel_enableChangeF (a : Fin 12) (f : Channel → Channel) : (s.modChannel a f).enableChangeF = s.enableChangeF := rfl
@[simp] theorem State.modChannel_origin (a : Fin 12) (f : Channel → Channel) : (s.modChannel a f).origin = s.origin := rfl
@[simp] theorem State.modChannel_ownStation (a : Fin 12) (f : Channel → Channel) : (s.modChannel a f).ownStation = s.ownStation := rfl
@[simp] theorem State.modChannel_report (a : Fin 12) (f : Channel → Channel) : (s.modChannel a f).report = s.report := rfl
@[simp] theorem State.modChannel_policy (a : Fin 12) (f : Channel → Channel) : (s.modChannel a f).policy = s.policy := rfl
@[simp] theorem State.modChannel_notices (a : Fin 12) (f : Channel → Channel) : (s.modChannel a f).notices = s.notices := rfl
@[simp] theorem State.modChannel_statusTag (a : Fin 12) (f : Channel → Channel) : (s.modChannel a f).statusTag = s.statusTag := rfl
@[simp] theorem State.modChannel_resetCount (a : Fin 12) (f : Channel → Channel) : (s.modChannel a f).resetCount = s.resetCount := rfl
@[simp] theorem State.modChannel_lossCount (a : Fin 12) (f : Channel → Channel) : (s.modChannel a f).lossCount = s.lossCount := rfl
@[simp] theorem State.modChannel_runState (a : Fin 12) (f : Channel → Channel) : (s.modChannel a f).runState = s.runState := rfl
@[simp] theorem State.modChannel_stepFlag (a : Fin 12) (f : Channel → Channel) : (s.modChannel a f).stepFlag = s.stepFlag := rfl
@[simp] theorem State.modChannel_stepConsumed (a : Fin 12) (f : Channel → Channel) : (s.modChannel a f).stepConsumed = s.stepConsumed := rfl
@[simp] theorem State.modChannel_stepDone (a : Fin 12) (f : Channel → Channel) : (s.modChannel a f).stepDone = s.stepDone := rfl
@[simp] theorem State.modChannel_stopCause (a : Fin 12) (f : Channel → Channel) : (s.modChannel a f).stopCause = s.stopCause := rfl
@[simp] theorem State.modChannel_cycle (a : Fin 12) (f : Channel → Channel) : (s.modChannel a f).cycle = s.cycle := rfl
@[simp] theorem State.modChannel_trim (a : Fin 12) (f : Channel → Channel) : (s.modChannel a f).trim = s.trim := rfl
@[simp] theorem State.modChannel_cycleTrim (a : Fin 12) (f : Channel → Channel) : (s.modChannel a f).cycleTrim = s.cycleTrim := rfl
@[simp] theorem State.modChannel_started (a : Fin 12) (f : Channel → Channel) : (s.modChannel a f).started = s.started := rfl
@[simp] theorem State.modChannel_schedule (a : Fin 12) (f : Channel → Channel) : (s.modChannel a f).schedule = s.schedule := rfl
@[simp] theorem State.modChannel_stations (a : Fin 12) (f : Channel → Channel) : (s.modChannel a f).stations = s.stations := rfl
@[simp] theorem State.modChannel_geometrySet (a : Fin 12) (f : Channel → Channel) : (s.modChannel a f).geometrySet = s.geometrySet := rfl
@[simp] theorem State.modChannel_bridge (a : Fin 12) (f : Channel → Channel) : (s.modChannel a f).bridge = s.bridge := rfl
@[simp] theorem State.modChannel_trolley (a : Fin 12) (f : Channel → Channel) : (s.modChannel a f).trolley = s.trolley := rfl
@[simp] theorem State.modChannel_zones (a : Fin 12) (f : Channel → Channel) : (s.modChannel a f).zones = s.zones := rfl
@[simp] theorem State.modChannel_cranes (a : Fin 12) (f : Channel → Channel) : (s.modChannel a f).cranes = s.cranes := rfl
@[simp] theorem State.modChannel_hold (a : Fin 12) (f : Channel → Channel) : (s.modChannel a f).hold = s.hold := rfl
@[simp] theorem State.modChannel_tables (a : Fin 12) (f : Channel → Channel) : (s.modChannel a f).tables = s.tables := rfl
@[simp] theorem State.modChannel_arcs (a : Fin 12) (f : Channel → Channel) : (s.modChannel a f).arcs = s.arcs := rfl
@[simp] theorem State.modChannel_markers (a : Fin 12) (f : Channel → Channel) : (s.modChannel a f).markers = s.markers := rfl
@[simp] theorem State.modChannel_stock (a : Fin 12) (f : Channel → Channel) : (s.modChannel a f).stock = s.stock := rfl
@[simp] theorem State.modChannel_stockCounter (a : Fin 12) (f : Channel → Channel) : (s.modChannel a f).stockCounter = s.stockCounter := rfl
@[simp] theorem State.modChannel_sentU (a : Fin 12) (f : Channel → Channel) : (s.modChannel a f).sentU = s.sentU := rfl
@[simp] theorem State.modChannel_sentF (a : Fin 12) (f : Channel → Channel) : (s.modChannel a f).sentF = s.sentF := rfl
@[simp] theorem State.modChannel_pending (a : Fin 12) (f : Channel → Channel) : (s.modChannel a f).pending = s.pending := rfl
@[simp] theorem State.modChannel_crane (a : Fin 12) (f : Channel → Channel) (x : Fin 4) : (s.modChannel a f).crane x = s.crane x := rfl
@[simp] theorem State.modChannel_table (a : Fin 12) (f : Channel → Channel) (x : Fin 6) : (s.modChannel a f).table x = s.table x := rfl
@[simp] theorem State.modChannel_arc (a : Fin 12) (f : Channel → Channel) (x : Fin 6) : (s.modChannel a f).arc x = s.arc x := rfl
@[simp] theorem State.modChannel_marker (a : Fin 12) (f : Channel → Channel) (x : Fin 4) : (s.modChannel a f).marker x = s.marker x := rfl
@[simp] theorem State.modChannel_notice (a : Fin 12) (f : Channel → Channel) (x : NoticeClass) : (s.modChannel a f).notice x = s.notice x := rfl
@[simp] theorem State.modChannel_station (a : Fin 12) (f : Channel → Channel) (x : Nat) : (s.modChannel a f).station x = s.station x := rfl
@[simp] theorem State.modChannel_zone (a : Fin 12) (f : Channel → Channel) (x : Nat) : (s.modChannel a f).zone x = s.zone x := rfl
@[simp] theorem State.modChannel_scheduleEntry (a : Fin 12) (f : Channel → Channel) (x : Fin 32) : (s.modChannel a f).scheduleEntry x = s.scheduleEntry x := rfl

/-! ## setNotice -/

@[simp] theorem State.setNotice_powered (k : NoticeClass) (n : Notice) : (s.setNotice k n).powered = s.powered := rfl
@[simp] theorem State.setNotice_linkU (k : NoticeClass) (n : Notice) : (s.setNotice k n).linkU = s.linkU := rfl
@[simp] theorem State.setNotice_linkF (k : NoticeClass) (n : Notice) : (s.setNotice k n).linkF = s.linkF := rfl
@[simp] theorem State.setNotice_linkChangeU (k : NoticeClass) (n : Notice) : (s.setNotice k n).linkChangeU = s.linkChangeU := rfl
@[simp] theorem State.setNotice_linkChangeF (k : NoticeClass) (n : Notice) : (s.setNotice k n).linkChangeF = s.linkChangeF := rfl
@[simp] theorem State.setNotice_enableF (k : NoticeClass) (n : Notice) : (s.setNotice k n).enableF = s.enableF := rfl
@[simp] theorem State.setNotice_enableChangeF (k : NoticeClass) (n : Notice) : (s.setNotice k n).enableChangeF = s.enableChangeF := rfl
@[simp] theorem State.setNotice_origin (k : NoticeClass) (n : Notice) : (s.setNotice k n).origin = s.origin := rfl
@[simp] theorem State.setNotice_ownStation (k : NoticeClass) (n : Notice) : (s.setNotice k n).ownStation = s.ownStation := rfl
@[simp] theorem State.setNotice_report (k : NoticeClass) (n : Notice) : (s.setNotice k n).report = s.report := rfl
@[simp] theorem State.setNotice_policy (k : NoticeClass) (n : Notice) : (s.setNotice k n).policy = s.policy := rfl
@[simp] theorem State.setNotice_statusTag (k : NoticeClass) (n : Notice) : (s.setNotice k n).statusTag = s.statusTag := rfl
@[simp] theorem State.setNotice_resetCount (k : NoticeClass) (n : Notice) : (s.setNotice k n).resetCount = s.resetCount := rfl
@[simp] theorem State.setNotice_lossCount (k : NoticeClass) (n : Notice) : (s.setNotice k n).lossCount = s.lossCount := rfl
@[simp] theorem State.setNotice_runState (k : NoticeClass) (n : Notice) : (s.setNotice k n).runState = s.runState := rfl
@[simp] theorem State.setNotice_stepFlag (k : NoticeClass) (n : Notice) : (s.setNotice k n).stepFlag = s.stepFlag := rfl
@[simp] theorem State.setNotice_stepConsumed (k : NoticeClass) (n : Notice) : (s.setNotice k n).stepConsumed = s.stepConsumed := rfl
@[simp] theorem State.setNotice_stepDone (k : NoticeClass) (n : Notice) : (s.setNotice k n).stepDone = s.stepDone := rfl
@[simp] theorem State.setNotice_stopCause (k : NoticeClass) (n : Notice) : (s.setNotice k n).stopCause = s.stopCause := rfl
@[simp] theorem State.setNotice_cycle (k : NoticeClass) (n : Notice) : (s.setNotice k n).cycle = s.cycle := rfl
@[simp] theorem State.setNotice_trim (k : NoticeClass) (n : Notice) : (s.setNotice k n).trim = s.trim := rfl
@[simp] theorem State.setNotice_cycleTrim (k : NoticeClass) (n : Notice) : (s.setNotice k n).cycleTrim = s.cycleTrim := rfl
@[simp] theorem State.setNotice_started (k : NoticeClass) (n : Notice) : (s.setNotice k n).started = s.started := rfl
@[simp] theorem State.setNotice_schedule (k : NoticeClass) (n : Notice) : (s.setNotice k n).schedule = s.schedule := rfl
@[simp] theorem State.setNotice_stations (k : NoticeClass) (n : Notice) : (s.setNotice k n).stations = s.stations := rfl
@[simp] theorem State.setNotice_geometrySet (k : NoticeClass) (n : Notice) : (s.setNotice k n).geometrySet = s.geometrySet := rfl
@[simp] theorem State.setNotice_bridge (k : NoticeClass) (n : Notice) : (s.setNotice k n).bridge = s.bridge := rfl
@[simp] theorem State.setNotice_trolley (k : NoticeClass) (n : Notice) : (s.setNotice k n).trolley = s.trolley := rfl
@[simp] theorem State.setNotice_zones (k : NoticeClass) (n : Notice) : (s.setNotice k n).zones = s.zones := rfl
@[simp] theorem State.setNotice_channels (k : NoticeClass) (n : Notice) : (s.setNotice k n).channels = s.channels := rfl
@[simp] theorem State.setNotice_cranes (k : NoticeClass) (n : Notice) : (s.setNotice k n).cranes = s.cranes := rfl
@[simp] theorem State.setNotice_hold (k : NoticeClass) (n : Notice) : (s.setNotice k n).hold = s.hold := rfl
@[simp] theorem State.setNotice_tables (k : NoticeClass) (n : Notice) : (s.setNotice k n).tables = s.tables := rfl
@[simp] theorem State.setNotice_arcs (k : NoticeClass) (n : Notice) : (s.setNotice k n).arcs = s.arcs := rfl
@[simp] theorem State.setNotice_markers (k : NoticeClass) (n : Notice) : (s.setNotice k n).markers = s.markers := rfl
@[simp] theorem State.setNotice_stock (k : NoticeClass) (n : Notice) : (s.setNotice k n).stock = s.stock := rfl
@[simp] theorem State.setNotice_stockCounter (k : NoticeClass) (n : Notice) : (s.setNotice k n).stockCounter = s.stockCounter := rfl
@[simp] theorem State.setNotice_sentU (k : NoticeClass) (n : Notice) : (s.setNotice k n).sentU = s.sentU := rfl
@[simp] theorem State.setNotice_sentF (k : NoticeClass) (n : Notice) : (s.setNotice k n).sentF = s.sentF := rfl
@[simp] theorem State.setNotice_pending (k : NoticeClass) (n : Notice) : (s.setNotice k n).pending = s.pending := rfl
@[simp] theorem State.setNotice_crane (k : NoticeClass) (n : Notice) (x : Fin 4) : (s.setNotice k n).crane x = s.crane x := rfl
@[simp] theorem State.setNotice_table (k : NoticeClass) (n : Notice) (x : Fin 6) : (s.setNotice k n).table x = s.table x := rfl
@[simp] theorem State.setNotice_arc (k : NoticeClass) (n : Notice) (x : Fin 6) : (s.setNotice k n).arc x = s.arc x := rfl
@[simp] theorem State.setNotice_marker (k : NoticeClass) (n : Notice) (x : Fin 4) : (s.setNotice k n).marker x = s.marker x := rfl
@[simp] theorem State.setNotice_channel (k : NoticeClass) (n : Notice) (x : Fin 12) : (s.setNotice k n).channel x = s.channel x := rfl
@[simp] theorem State.setNotice_station (k : NoticeClass) (n : Notice) (x : Nat) : (s.setNotice k n).station x = s.station x := rfl
@[simp] theorem State.setNotice_zone (k : NoticeClass) (n : Notice) (x : Nat) : (s.setNotice k n).zone x = s.zone x := rfl
@[simp] theorem State.setNotice_scheduleEntry (k : NoticeClass) (n : Notice) (x : Fin 32) : (s.setNotice k n).scheduleEntry x = s.scheduleEntry x := rfl

/-! ## modStation -/

@[simp] theorem State.modStation_powered (n : Nat) (f : Station → Station) : (s.modStation n f).powered = s.powered := by unfold State.modStation; split <;> rfl
@[simp] theorem State.modStation_linkU (n : Nat) (f : Station → Station) : (s.modStation n f).linkU = s.linkU := by unfold State.modStation; split <;> rfl
@[simp] theorem State.modStation_linkF (n : Nat) (f : Station → Station) : (s.modStation n f).linkF = s.linkF := by unfold State.modStation; split <;> rfl
@[simp] theorem State.modStation_linkChangeU (n : Nat) (f : Station → Station) : (s.modStation n f).linkChangeU = s.linkChangeU := by unfold State.modStation; split <;> rfl
@[simp] theorem State.modStation_linkChangeF (n : Nat) (f : Station → Station) : (s.modStation n f).linkChangeF = s.linkChangeF := by unfold State.modStation; split <;> rfl
@[simp] theorem State.modStation_enableF (n : Nat) (f : Station → Station) : (s.modStation n f).enableF = s.enableF := by unfold State.modStation; split <;> rfl
@[simp] theorem State.modStation_enableChangeF (n : Nat) (f : Station → Station) : (s.modStation n f).enableChangeF = s.enableChangeF := by unfold State.modStation; split <;> rfl
@[simp] theorem State.modStation_origin (n : Nat) (f : Station → Station) : (s.modStation n f).origin = s.origin := by unfold State.modStation; split <;> rfl
@[simp] theorem State.modStation_ownStation (n : Nat) (f : Station → Station) : (s.modStation n f).ownStation = s.ownStation := by unfold State.modStation; split <;> rfl
@[simp] theorem State.modStation_report (n : Nat) (f : Station → Station) : (s.modStation n f).report = s.report := by unfold State.modStation; split <;> rfl
@[simp] theorem State.modStation_policy (n : Nat) (f : Station → Station) : (s.modStation n f).policy = s.policy := by unfold State.modStation; split <;> rfl
@[simp] theorem State.modStation_notices (n : Nat) (f : Station → Station) : (s.modStation n f).notices = s.notices := by unfold State.modStation; split <;> rfl
@[simp] theorem State.modStation_statusTag (n : Nat) (f : Station → Station) : (s.modStation n f).statusTag = s.statusTag := by unfold State.modStation; split <;> rfl
@[simp] theorem State.modStation_resetCount (n : Nat) (f : Station → Station) : (s.modStation n f).resetCount = s.resetCount := by unfold State.modStation; split <;> rfl
@[simp] theorem State.modStation_lossCount (n : Nat) (f : Station → Station) : (s.modStation n f).lossCount = s.lossCount := by unfold State.modStation; split <;> rfl
@[simp] theorem State.modStation_runState (n : Nat) (f : Station → Station) : (s.modStation n f).runState = s.runState := by unfold State.modStation; split <;> rfl
@[simp] theorem State.modStation_stepFlag (n : Nat) (f : Station → Station) : (s.modStation n f).stepFlag = s.stepFlag := by unfold State.modStation; split <;> rfl
@[simp] theorem State.modStation_stepConsumed (n : Nat) (f : Station → Station) : (s.modStation n f).stepConsumed = s.stepConsumed := by unfold State.modStation; split <;> rfl
@[simp] theorem State.modStation_stepDone (n : Nat) (f : Station → Station) : (s.modStation n f).stepDone = s.stepDone := by unfold State.modStation; split <;> rfl
@[simp] theorem State.modStation_stopCause (n : Nat) (f : Station → Station) : (s.modStation n f).stopCause = s.stopCause := by unfold State.modStation; split <;> rfl
@[simp] theorem State.modStation_cycle (n : Nat) (f : Station → Station) : (s.modStation n f).cycle = s.cycle := by unfold State.modStation; split <;> rfl
@[simp] theorem State.modStation_trim (n : Nat) (f : Station → Station) : (s.modStation n f).trim = s.trim := by unfold State.modStation; split <;> rfl
@[simp] theorem State.modStation_cycleTrim (n : Nat) (f : Station → Station) : (s.modStation n f).cycleTrim = s.cycleTrim := by unfold State.modStation; split <;> rfl
@[simp] theorem State.modStation_started (n : Nat) (f : Station → Station) : (s.modStation n f).started = s.started := by unfold State.modStation; split <;> rfl
@[simp] theorem State.modStation_schedule (n : Nat) (f : Station → Station) : (s.modStation n f).schedule = s.schedule := by unfold State.modStation; split <;> rfl
@[simp] theorem State.modStation_geometrySet (n : Nat) (f : Station → Station) : (s.modStation n f).geometrySet = s.geometrySet := by unfold State.modStation; split <;> rfl
@[simp] theorem State.modStation_bridge (n : Nat) (f : Station → Station) : (s.modStation n f).bridge = s.bridge := by unfold State.modStation; split <;> rfl
@[simp] theorem State.modStation_trolley (n : Nat) (f : Station → Station) : (s.modStation n f).trolley = s.trolley := by unfold State.modStation; split <;> rfl
@[simp] theorem State.modStation_zones (n : Nat) (f : Station → Station) : (s.modStation n f).zones = s.zones := by unfold State.modStation; split <;> rfl
@[simp] theorem State.modStation_channels (n : Nat) (f : Station → Station) : (s.modStation n f).channels = s.channels := by unfold State.modStation; split <;> rfl
@[simp] theorem State.modStation_cranes (n : Nat) (f : Station → Station) : (s.modStation n f).cranes = s.cranes := by unfold State.modStation; split <;> rfl
@[simp] theorem State.modStation_hold (n : Nat) (f : Station → Station) : (s.modStation n f).hold = s.hold := by unfold State.modStation; split <;> rfl
@[simp] theorem State.modStation_tables (n : Nat) (f : Station → Station) : (s.modStation n f).tables = s.tables := by unfold State.modStation; split <;> rfl
@[simp] theorem State.modStation_arcs (n : Nat) (f : Station → Station) : (s.modStation n f).arcs = s.arcs := by unfold State.modStation; split <;> rfl
@[simp] theorem State.modStation_markers (n : Nat) (f : Station → Station) : (s.modStation n f).markers = s.markers := by unfold State.modStation; split <;> rfl
@[simp] theorem State.modStation_stock (n : Nat) (f : Station → Station) : (s.modStation n f).stock = s.stock := by unfold State.modStation; split <;> rfl
@[simp] theorem State.modStation_stockCounter (n : Nat) (f : Station → Station) : (s.modStation n f).stockCounter = s.stockCounter := by unfold State.modStation; split <;> rfl
@[simp] theorem State.modStation_sentU (n : Nat) (f : Station → Station) : (s.modStation n f).sentU = s.sentU := by unfold State.modStation; split <;> rfl
@[simp] theorem State.modStation_sentF (n : Nat) (f : Station → Station) : (s.modStation n f).sentF = s.sentF := by unfold State.modStation; split <;> rfl
@[simp] theorem State.modStation_pending (n : Nat) (f : Station → Station) : (s.modStation n f).pending = s.pending := by unfold State.modStation; split <;> rfl
@[simp] theorem State.modStation_crane (n : Nat) (f : Station → Station) (x : Fin 4) : (s.modStation n f).crane x = s.crane x := by unfold State.modStation; split <;> rfl
@[simp] theorem State.modStation_table (n : Nat) (f : Station → Station) (x : Fin 6) : (s.modStation n f).table x = s.table x := by unfold State.modStation; split <;> rfl
@[simp] theorem State.modStation_arc (n : Nat) (f : Station → Station) (x : Fin 6) : (s.modStation n f).arc x = s.arc x := by unfold State.modStation; split <;> rfl
@[simp] theorem State.modStation_marker (n : Nat) (f : Station → Station) (x : Fin 4) : (s.modStation n f).marker x = s.marker x := by unfold State.modStation; split <;> rfl
@[simp] theorem State.modStation_channel (n : Nat) (f : Station → Station) (x : Fin 12) : (s.modStation n f).channel x = s.channel x := by unfold State.modStation; split <;> rfl
@[simp] theorem State.modStation_notice (n : Nat) (f : Station → Station) (x : NoticeClass) : (s.modStation n f).notice x = s.notice x := by unfold State.modStation; split <;> rfl
@[simp] theorem State.modStation_zone (n : Nat) (f : Station → Station) (x : Nat) : (s.modStation n f).zone x = s.zone x := by unfold State.modStation; split <;> rfl
@[simp] theorem State.modStation_scheduleEntry (n : Nat) (f : Station → Station) (x : Fin 32) : (s.modStation n f).scheduleEntry x = s.scheduleEntry x := by unfold State.modStation; split <;> rfl

/-! ## modZone -/

@[simp] theorem State.modZone_powered (z : Nat) (f : Zone → Zone) : (s.modZone z f).powered = s.powered := by unfold State.modZone; split <;> rfl
@[simp] theorem State.modZone_linkU (z : Nat) (f : Zone → Zone) : (s.modZone z f).linkU = s.linkU := by unfold State.modZone; split <;> rfl
@[simp] theorem State.modZone_linkF (z : Nat) (f : Zone → Zone) : (s.modZone z f).linkF = s.linkF := by unfold State.modZone; split <;> rfl
@[simp] theorem State.modZone_linkChangeU (z : Nat) (f : Zone → Zone) : (s.modZone z f).linkChangeU = s.linkChangeU := by unfold State.modZone; split <;> rfl
@[simp] theorem State.modZone_linkChangeF (z : Nat) (f : Zone → Zone) : (s.modZone z f).linkChangeF = s.linkChangeF := by unfold State.modZone; split <;> rfl
@[simp] theorem State.modZone_enableF (z : Nat) (f : Zone → Zone) : (s.modZone z f).enableF = s.enableF := by unfold State.modZone; split <;> rfl
@[simp] theorem State.modZone_enableChangeF (z : Nat) (f : Zone → Zone) : (s.modZone z f).enableChangeF = s.enableChangeF := by unfold State.modZone; split <;> rfl
@[simp] theorem State.modZone_origin (z : Nat) (f : Zone → Zone) : (s.modZone z f).origin = s.origin := by unfold State.modZone; split <;> rfl
@[simp] theorem State.modZone_ownStation (z : Nat) (f : Zone → Zone) : (s.modZone z f).ownStation = s.ownStation := by unfold State.modZone; split <;> rfl
@[simp] theorem State.modZone_report (z : Nat) (f : Zone → Zone) : (s.modZone z f).report = s.report := by unfold State.modZone; split <;> rfl
@[simp] theorem State.modZone_policy (z : Nat) (f : Zone → Zone) : (s.modZone z f).policy = s.policy := by unfold State.modZone; split <;> rfl
@[simp] theorem State.modZone_notices (z : Nat) (f : Zone → Zone) : (s.modZone z f).notices = s.notices := by unfold State.modZone; split <;> rfl
@[simp] theorem State.modZone_statusTag (z : Nat) (f : Zone → Zone) : (s.modZone z f).statusTag = s.statusTag := by unfold State.modZone; split <;> rfl
@[simp] theorem State.modZone_resetCount (z : Nat) (f : Zone → Zone) : (s.modZone z f).resetCount = s.resetCount := by unfold State.modZone; split <;> rfl
@[simp] theorem State.modZone_lossCount (z : Nat) (f : Zone → Zone) : (s.modZone z f).lossCount = s.lossCount := by unfold State.modZone; split <;> rfl
@[simp] theorem State.modZone_runState (z : Nat) (f : Zone → Zone) : (s.modZone z f).runState = s.runState := by unfold State.modZone; split <;> rfl
@[simp] theorem State.modZone_stepFlag (z : Nat) (f : Zone → Zone) : (s.modZone z f).stepFlag = s.stepFlag := by unfold State.modZone; split <;> rfl
@[simp] theorem State.modZone_stepConsumed (z : Nat) (f : Zone → Zone) : (s.modZone z f).stepConsumed = s.stepConsumed := by unfold State.modZone; split <;> rfl
@[simp] theorem State.modZone_stepDone (z : Nat) (f : Zone → Zone) : (s.modZone z f).stepDone = s.stepDone := by unfold State.modZone; split <;> rfl
@[simp] theorem State.modZone_stopCause (z : Nat) (f : Zone → Zone) : (s.modZone z f).stopCause = s.stopCause := by unfold State.modZone; split <;> rfl
@[simp] theorem State.modZone_cycle (z : Nat) (f : Zone → Zone) : (s.modZone z f).cycle = s.cycle := by unfold State.modZone; split <;> rfl
@[simp] theorem State.modZone_trim (z : Nat) (f : Zone → Zone) : (s.modZone z f).trim = s.trim := by unfold State.modZone; split <;> rfl
@[simp] theorem State.modZone_cycleTrim (z : Nat) (f : Zone → Zone) : (s.modZone z f).cycleTrim = s.cycleTrim := by unfold State.modZone; split <;> rfl
@[simp] theorem State.modZone_started (z : Nat) (f : Zone → Zone) : (s.modZone z f).started = s.started := by unfold State.modZone; split <;> rfl
@[simp] theorem State.modZone_schedule (z : Nat) (f : Zone → Zone) : (s.modZone z f).schedule = s.schedule := by unfold State.modZone; split <;> rfl
@[simp] theorem State.modZone_stations (z : Nat) (f : Zone → Zone) : (s.modZone z f).stations = s.stations := by unfold State.modZone; split <;> rfl
@[simp] theorem State.modZone_geometrySet (z : Nat) (f : Zone → Zone) : (s.modZone z f).geometrySet = s.geometrySet := by unfold State.modZone; split <;> rfl
@[simp] theorem State.modZone_bridge (z : Nat) (f : Zone → Zone) : (s.modZone z f).bridge = s.bridge := by unfold State.modZone; split <;> rfl
@[simp] theorem State.modZone_trolley (z : Nat) (f : Zone → Zone) : (s.modZone z f).trolley = s.trolley := by unfold State.modZone; split <;> rfl
@[simp] theorem State.modZone_channels (z : Nat) (f : Zone → Zone) : (s.modZone z f).channels = s.channels := by unfold State.modZone; split <;> rfl
@[simp] theorem State.modZone_cranes (z : Nat) (f : Zone → Zone) : (s.modZone z f).cranes = s.cranes := by unfold State.modZone; split <;> rfl
@[simp] theorem State.modZone_hold (z : Nat) (f : Zone → Zone) : (s.modZone z f).hold = s.hold := by unfold State.modZone; split <;> rfl
@[simp] theorem State.modZone_tables (z : Nat) (f : Zone → Zone) : (s.modZone z f).tables = s.tables := by unfold State.modZone; split <;> rfl
@[simp] theorem State.modZone_arcs (z : Nat) (f : Zone → Zone) : (s.modZone z f).arcs = s.arcs := by unfold State.modZone; split <;> rfl
@[simp] theorem State.modZone_markers (z : Nat) (f : Zone → Zone) : (s.modZone z f).markers = s.markers := by unfold State.modZone; split <;> rfl
@[simp] theorem State.modZone_stock (z : Nat) (f : Zone → Zone) : (s.modZone z f).stock = s.stock := by unfold State.modZone; split <;> rfl
@[simp] theorem State.modZone_stockCounter (z : Nat) (f : Zone → Zone) : (s.modZone z f).stockCounter = s.stockCounter := by unfold State.modZone; split <;> rfl
@[simp] theorem State.modZone_sentU (z : Nat) (f : Zone → Zone) : (s.modZone z f).sentU = s.sentU := by unfold State.modZone; split <;> rfl
@[simp] theorem State.modZone_sentF (z : Nat) (f : Zone → Zone) : (s.modZone z f).sentF = s.sentF := by unfold State.modZone; split <;> rfl
@[simp] theorem State.modZone_pending (z : Nat) (f : Zone → Zone) : (s.modZone z f).pending = s.pending := by unfold State.modZone; split <;> rfl
@[simp] theorem State.modZone_crane (z : Nat) (f : Zone → Zone) (x : Fin 4) : (s.modZone z f).crane x = s.crane x := by unfold State.modZone; split <;> rfl
@[simp] theorem State.modZone_table (z : Nat) (f : Zone → Zone) (x : Fin 6) : (s.modZone z f).table x = s.table x := by unfold State.modZone; split <;> rfl
@[simp] theorem State.modZone_arc (z : Nat) (f : Zone → Zone) (x : Fin 6) : (s.modZone z f).arc x = s.arc x := by unfold State.modZone; split <;> rfl
@[simp] theorem State.modZone_marker (z : Nat) (f : Zone → Zone) (x : Fin 4) : (s.modZone z f).marker x = s.marker x := by unfold State.modZone; split <;> rfl
@[simp] theorem State.modZone_channel (z : Nat) (f : Zone → Zone) (x : Fin 12) : (s.modZone z f).channel x = s.channel x := by unfold State.modZone; split <;> rfl
@[simp] theorem State.modZone_notice (z : Nat) (f : Zone → Zone) (x : NoticeClass) : (s.modZone z f).notice x = s.notice x := by unfold State.modZone; split <;> rfl
@[simp] theorem State.modZone_station (z : Nat) (f : Zone → Zone) (x : Nat) : (s.modZone z f).station x = s.station x := by unfold State.modZone; split <;> rfl
@[simp] theorem State.modZone_scheduleEntry (z : Nat) (f : Zone → Zone) (x : Fin 32) : (s.modZone z f).scheduleEntry x = s.scheduleEntry x := by unfold State.modZone; split <;> rfl

/-! ## The record after its own update -/

@[simp] theorem State.modCrane_same (c : Fin 4) (f : Crane → Crane) : (s.modCrane c f).crane c = f (s.crane c) :=
  bankGet_bankMod_same ..
theorem State.modCrane_other (c d : Fin 4) (f : Crane → Crane) (h : c ≠ d) : (s.modCrane c f).crane d = s.crane d :=
  bankGet_bankMod_other _ _ _ _ h
@[simp] theorem State.modTable_same (t : Fin 6) (f : Table → Table) : (s.modTable t f).table t = f (s.table t) :=
  bankGet_bankMod_same ..
theorem State.modTable_other (t u : Fin 6) (f : Table → Table) (h : t ≠ u) : (s.modTable t f).table u = s.table u :=
  bankGet_bankMod_other _ _ _ _ h
@[simp] theorem State.modArc_same (t : Fin 6) (f : Arc → Arc) : (s.modArc t f).arc t = f (s.arc t) :=
  bankGet_bankMod_same ..
theorem State.modArc_other (t u : Fin 6) (f : Arc → Arc) (h : t ≠ u) : (s.modArc t f).arc u = s.arc u :=
  bankGet_bankMod_other _ _ _ _ h
@[simp] theorem State.modMarker_same (m : Fin 4) (f : Marker → Marker) : (s.modMarker m f).marker m = f (s.marker m) :=
  bankGet_bankMod_same ..
theorem State.modMarker_other (m n : Fin 4) (f : Marker → Marker) (h : m ≠ n) :
    (s.modMarker m f).marker n = s.marker n :=
  bankGet_bankMod_other _ _ _ _ h
@[simp] theorem State.modChannel_same (a : Fin 12) (f : Channel → Channel) :
    (s.modChannel a f).channel a = f (s.channel a) :=
  bankGet_bankMod_same ..
theorem State.modChannel_other (a b : Fin 12) (f : Channel → Channel) (h : a ≠ b) :
    (s.modChannel a f).channel b = s.channel b :=
  bankGet_bankMod_other _ _ _ _ h
@[simp] theorem State.setNotice_same (k : NoticeClass) (n : Notice) : (s.setNotice k n).notice k = n :=
  bankGet_bankMod_same s.notices k.index fun _ => n
theorem State.setNotice_other (k j : NoticeClass) (n : Notice) (h : k ≠ j) : (s.setNotice k n).notice j = s.notice j := by
  refine bankGet_bankMod_other s.notices k.index j.index (fun _ => n) fun e => h ?_
  cases k <;> cases j <;> simp_all [NoticeClass.index]

/-- A station record after an update of it; a number above 63 has no record (R160). -/
theorem State.modStation_station (n x : Nat) (f : Station → Station) :
    (s.modStation n f).station x = if x = n ∧ n < 64 then f (s.station n) else s.station x := by
  unfold State.modStation State.station
  by_cases hn : n < 64
  · by_cases hx : x = n
    · subst hx; simp [hn, bankGet]
    · by_cases hx' : x < 64
      · have : n ≠ x := fun e => hx e.symm
        simp [hn, hx, hx', bankGet, this]
      · simp [hn, hx, hx']
  · simp [hn]

/-- A zone record after an update of it; the Zone Table holds 128 (R4). -/
theorem State.modZone_zone (z x : Nat) (f : Zone → Zone) :
    (s.modZone z f).zone x = if x = z ∧ z < 128 then f (s.zone z) else s.zone x := by
  unfold State.modZone State.zone
  by_cases hn : z < 128
  · by_cases hx : x = z
    · subst hx; simp [hn, bankGet]
    · by_cases hx' : x < 128
      · have : z ≠ x := fun e => hx e.symm
        simp [hn, hx, hx', bankGet, this]
      · simp [hn, hx, hx']
  · simp [hn]

end Sys2Proof.Machine
end

