-- ==== Sys2Proof/Laws/Sending.lean ====
section
/-! SUPPORT. What the sending operations can do: they append to the ports' transcripts, take a counter on, write a notice
class, and leave every other field as it was. -/

namespace Sys2Proof.Machine

/-- A frame goes out of its port where that port is open, and nothing else changes (R184). -/
theorem State.transmit_eq (s : State) (p : Port) (x : Sent) :
    s.transmit p x =
      { s with sentU := s.sentU ++ (if p = .u ∧ s.portOpen .u = true then [x] else []),
               sentF := s.sentF ++ (if p = .f ∧ s.portOpen .f = true then [x] else []) } := by
  cases p <;> simp only [State.transmit] <;> split <;> simp_all

theorem State.transmit_shape (s : State) (p : Port) (x : Sent) :
    ∃ u f, s.transmit p x = { s with sentU := s.sentU ++ u, sentF := s.sentF ++ f } :=
  ⟨_, _, s.transmit_eq p x⟩

theorem State.answer_shape (s : State) (kind src : Byte) (seq : Half) (p : Port) (v : Verdict) (r : Option Reason) :
    ∃ u f, s.answer kind src seq p v r = { s with sentU := s.sentU ++ u, sentF := s.sentF ++ f } :=
  s.transmit_shape _ _

theorem State.reply_shape (s : State) (r : Req) (code : Half) (a : Reply) :
    ∃ u f, s.reply r code a = { s with sentU := s.sentU ++ u, sentF := s.sentF ++ f } :=
  s.transmit_shape _ _

/-- A frame under the origin counter takes its next value (R184). -/
theorem State.originate_shape (s : State) (p : Port) (kind dst : Byte) (payload : List Byte) :
    ∃ u f, s.originate p kind dst payload =
      { s with origin := s.origin + 1, sentU := s.sentU ++ u, sentF := s.sentF ++ f } := by
  obtain ⟨u, f, h⟩ := State.transmit_shape { s with origin := s.origin + 1 } p
    (.hall (s.ownFrame kind dst (s.origin + 1) payload))
  exact ⟨u, f, h⟩

theorem State.originateTo_shape (s : State) (p : Port) (kind : Byte) (dst : Option Nat) (payload : List Byte) :
    ∃ o u f, s.originateTo p kind dst payload =
      { s with origin := o, sentU := s.sentU ++ u, sentF := s.sentF ++ f } := by
  cases dst with
  | none => exact ⟨s.origin, [], [], by simp [State.originateTo]⟩
  | some n =>
    obtain ⟨u, f, h⟩ := s.originate_shape p kind (BitVec.ofNat 8 n) payload
    exact ⟨_, u, f, h⟩

theorem State.sendArrest_shape (s : State) (k : StationKind) :
    ∃ o u f, s.sendArrest k = { s with origin := o, sentU := s.sentU ++ u, sentF := s.sentF ++ f } :=
  s.originateTo_shape _ _ _ _

theorem State.sendNotice_shape (s : State) (k : NoticeClass) :
    ∃ n o u f, s.sendNotice k =
      { s with notices := n, origin := o, sentU := s.sentU ++ u, sentF := s.sentF ++ f } := by
  obtain ⟨o, u, f, h⟩ := State.originateTo_shape (s.setNotice k { s.notice k with unsent := false }) .u kindNotice
    s.report (noticePayload k { s.notice k with unsent := false })
  exact ⟨_, o, u, f, h⟩

theorem State.setNotice_shape (s : State) (k : NoticeClass) (x : Notice) :
    ∃ n, s.setNotice k x = { s with notices := n } := ⟨_, rfl⟩

/-- An occurrence writes its notice class, and may take an origin counter value and send one frame (R184, R197, R198). -/
theorem State.raise_shape (s : State) (k : NoticeClass) (code unit : Nat) (value : Int) :
    ∃ n o u f, s.raise k code unit value =
      { s with notices := n, origin := o, sentU := s.sentU ++ u, sentF := s.sentF ++ f } := by
  simp only [State.raise]
  split
  · obtain ⟨n, h⟩ := s.setNotice_shape k _
    exact ⟨n, s.origin, [], [], by simpa using h⟩
  · split
    · obtain ⟨n, h⟩ := s.setNotice_shape k _
      exact ⟨n, s.origin, [], [], by simpa using h⟩
    · split
      · obtain ⟨n, h⟩ := State.setNotice_shape { s with origin := s.origin + 1 } k _
        exact ⟨n, s.origin + 1, [], [], by simpa [State.formUnreported] using h⟩
      · obtain ⟨n, o, u, f, h⟩ := State.sendNotice_shape (s.setNotice k _) k
        exact ⟨n, o, u, f, h⟩

theorem State.raiseRefusal_shape (s : State) (reason : Reason) (unit : Nat) (src : Byte) :
    ∃ n o u f, s.raiseRefusal reason unit src =
      { s with notices := n, origin := o, sentU := s.sentU ++ u, sentF := s.sentF ++ f } :=
  s.raise_shape _ _ _ _

end Sys2Proof.Machine
end

