-- ==== Sys2Proof/Laws/Ending.lean ====
section
/-! SUPPORT. The end of an event: a state between events is its own end, the status tag stays where nothing watched has
changed, and what a request comes to. -/

namespace Sys2Proof.Machine

theorem countChanges_self (l : List Bool) : countChanges l l = 0 := by
  induction l with
  | nil => rfl
  | cons b l ih => simp [countChanges, ih]

/-- Nothing watched changed: the tag stays (R202). -/
theorem State.tagged_of_same (before after : State) (run : after.runState = before.runState)
    (flags : after.watchedFlags = before.watchedFlags) (tag : after.statusTag = before.statusTag) :
    before.tagged after = after := by
  have none : watchedChanges before after = 0 := by simp [watchedChanges, run, flags, countChanges_self]
  have same : before.statusTag + BitVec.ofNat 8 0 = after.statusTag := by simp [tag]
  simp only [State.tagged, none, same]

/-- A table whose timers read 0 where they do not count is left as it is. -/
theorem State.clearTimers_of_settled (s : State) (t : Fin 6) (stall : s.stallCounts t = false → (s.table t).stall = 0)
    (linger : s.lingerCounts t = false → (s.table t).linger = 0) : s.clearTimers t = s := by
  have h : bankMod s.tables t (fun x =>
      { x with stall := if s.stallCounts t = true then x.stall else 0,
               linger := if s.lingerCounts t = true then x.linger else 0 }) = s.tables := by
    apply bankMod_id
    show _ = s.table t
    have h1 : (if s.stallCounts t = true then (s.table t).stall else 0) = (s.table t).stall := by
      split
      · rfl
      · exact (stall (by simp_all)).symm
    have h2 : (if s.lingerCounts t = true then (s.table t).linger else 0) = (s.table t).linger := by
      split
      · rfl
      · exact (linger (by simp_all)).symm
    show ({ s.table t with stall := if s.stallCounts t = true then (s.table t).stall else 0,
                           linger := if s.lingerCounts t = true then (s.table t).linger else 0 } : Table) = s.table t
    rw [h1, h2]
  simp only [State.clearTimers, State.modTable]
  rw [h]

/-- A state between events is its own end. -/
theorem State.finish_of_settled (s : State) (h : s.Settled) : s.finish = s := by
  obtain ⟨h1, h2, h3⟩ := h
  have e1 : s.endStep = s := by simp only [State.endStep]; rw [if_neg h1]
  have e2 : s.testHalted = s := by simp only [State.testHalted]; rw [if_neg h2]
  have e3 (t : Fin 6) : s.clearTimers t = s := s.clearTimers_of_settled t (h3 t).1 (h3 t).2
  simp [State.finish, e1, e2, allTables, e3]

/-- What the end of an event reads of the units is the same in two states: the one is settled where the other is. -/
theorem State.settled_of_alike (s t : State) (h : s.Settled) (run : t.runState = s.runState)
    (flag : t.stepFlag = s.stepFlag) (consumed : t.stepConsumed = s.stepConsumed)
    (work : t.runState = .stopping → t.workDone = s.workDone)
    (tables : ∀ x, (t.table x).stall = (s.table x).stall ∧ (t.table x).linger = (s.table x).linger ∧
      t.stallCounts x = s.stallCounts x ∧ t.lingerCounts x = s.lingerCounts x) : t.Settled := by
  obtain ⟨h1, h2, h3⟩ := h
  refine ⟨by rw [flag, consumed, run]; exact h1, fun ⟨a, b⟩ => h2 ⟨run ▸ a, work a ▸ b⟩, fun x => ?_⟩
  obtain ⟨e1, e2, e3, e4⟩ := tables x
  rw [e1, e2, e3, e4]
  exact h3 x

/-- What the end of an event reads is the same in two states: so are their ends. -/
theorem State.settled_of_same (s t : State) (h : s.Settled) (run : t.runState = s.runState)
    (flag : t.stepFlag = s.stepFlag) (consumed : t.stepConsumed = s.stepConsumed) (cranes : t.cranes = s.cranes)
    (tables : t.tables = s.tables) (arcs : t.arcs = s.arcs) : t.Settled := by
  have ht (x : Fin 6) : t.table x = s.table x := by simp [State.table, tables]
  have hc (x : Fin 4) : t.crane x = s.crane x := by simp [State.crane, cranes]
  have ha (x : Fin 6) : t.arc x = s.arc x := by simp [State.arc, arcs]
  simpa [State.Settled, State.Halts, State.workDone, State.stallCounts, State.lingerCounts, run, flag, consumed, ht, hc,
    ha] using h

/-- A command under supply whose effect leaves a settled state with nothing watched changed. -/
theorem State.take_event (s u : State) (act : State → Taken) (powered : s.powered = true) (h : act s = .event u)
    (settled : u.Settled) (run : u.runState = s.runState) (flags : u.watchedFlags = s.watchedFlags)
    (tag : u.statusTag = s.statusTag) : s.take act = .next u := by
  simp [State.take, powered, h, Taken.ended, u.finish_of_settled settled, State.tagged_of_same s u run flags tag]

/-- A request that is taken, and whose handling leaves a settled state with nothing watched changed: the handling's
state and its reply. -/
theorem State.request_eq (s u : State) (r : Req) (code : Half) (handle : State → State × Reply) (a : Reply)
    (takes : s.Takes r) (h : handle s = (u, a)) (settled : u.Settled) (run : u.runState = s.runState)
    (flags : u.watchedFlags = s.watchedFlags) (tag : u.statusTag = s.statusTag) :
    s.request r code handle = .next (u.reply r code a) := by
  obtain ⟨powered, _, port, source, manage⟩ := takes
  obtain ⟨x, y, e⟩ := u.reply_shape r code a
  refine s.take_event (u.reply r code a) _ powered ?_ ?_ ?_ ?_ ?_
  · simp [State.manage, State.answered, port, source, manage, h]
  · exact u.settled_of_same _ settled (by rw [e]) (by rw [e]) (by rw [e]) (by rw [e]) (by rw [e]) (by rw [e])
  · rw [e]; exact run
  · rw [e]; exact flags
  · rw [e]; exact tag

end Sys2Proof.Machine
end

