-- ==== Sys2Proof/WellFormed.lean ====
section
/-! DEFINITION. Which commands the wire can carry: every number within the width that R187 to R191 give it. The model gives a
meaning to every command, well-formed or not. -/

namespace Sys2Proof

/-- A value of 1 byte. -/
abbrev isByte (n : Nat) : Prop := n ≤ 255

/-- A value of 2 bytes. -/
abbrev isHalf (n : Nat) : Prop := n ≤ 65535

/-- A value of 4 bytes. -/
abbrev isQuad (n : Nat) : Prop := n ≤ 4294967295

/-- A signed value of 3 bytes (R187). -/
abbrev isPosition (x : Int) : Prop := -8388608 ≤ x ∧ x ≤ 8388607

/-- The most bytes of payload that a hall frame holds: the Ethernet payload limit less the header (R187, R191). -/
def payloadLimit : Nat := 1492

/-- The Ethernet payload limit (R191). -/
def ethernetLimit : Nat := 1500

/-- A number in place of which ALL may stand is not 0xFF (R191). -/
abbrev Sel.fits : Sel → Prop
  | .one n => n < 255
  | .all => True

/-- The eight values of CRANE.SET within their widths. -/
abbrev CraneConfig.fits (v : CraneConfig) : Prop :=
  isHalf v.bridgeMargin ∧ isHalf v.trolleyMargin ∧ isByte v.settle ∧ isHalf v.bridgeTolerance ∧
  isHalf v.trolleyTolerance ∧ isHalf v.startLimit ∧ isHalf v.opLimit ∧ isHalf v.holdLimit

/-- The twelve values of TABLE.SET within their widths. -/
abbrev TableArgs.fits (v : TableArgs) : Prop :=
  (∀ m ∈ v.marker, isByte m) ∧ isByte v.window ∧ isByte v.lowWater ∧ isHalf v.stallLimit ∧ isHalf v.linger ∧
  isHalf v.ignite ∧ isByte v.arcDepth ∧ isByte v.yieldPolicy ∧ isByte v.markPolicy ∧ isHalf v.minSide ∧
  isQuad v.pierceLimit ∧ isQuad v.arcLimit

/-- A location within its widths. -/
abbrev PlaceArg.fits (p : PlaceArg) : Prop := isByte p.kind ∧ isByte p.number

/-- What PIECE.PUT carries within its widths. -/
abbrev PutArgs.fits (v : PutArgs) : Prop :=
  isHalf v.id ∧ isByte v.kind ∧ (∀ p ∈ v.parent, isHalf p) ∧ isByte v.grade ∧ isHalf v.thickness ∧ isHalf v.width ∧
  isHalf v.length ∧ v.place.fits ∧ (∀ x ∈ v.tag, isHalf x)

/-- What PIECE.AMEND carries within its widths. -/
abbrev AmendArgs.fits (v : AmendArgs) : Prop :=
  isByte v.grade ∧ isHalf v.thickness ∧ isHalf v.width ∧ isHalf v.length

/-- What STATION.SET carries within its widths. -/
abbrev StationArgs.fits (v : StationArgs) : Prop := isByte v.kind ∧ isByte v.unit ∧ isByte v.side ∧ isByte v.missLimit

/-- A command the wire can carry, or an event of a unit that exists. -/
abbrev Instr.WellFormed : Instr → Prop
  | .powerOn | .cycleBoundary | .portFLinkDown | .portFLinkUp | .portULinkDown | .portULinkUp | .supplyRemoved => True
  | .geometrySet _ ob wb zb ot wt zt => isPosition ob ∧ isHalf wb ∧ isByte zb ∧ isPosition ot ∧ isHalf wt ∧ isByte zt
  | .geometryGet _ | .holdGet _ | .stop _ | .portGet _ | .deviceGet _ | .statusGet _ | .noticeGet _ => True
  | .zoneSet _ zone use table capacity => isByte zone ∧ isByte use ∧ isByte table ∧ isByte capacity
  | .zoneGet _ zone => isByte zone
  | .zoneAck _ zone => zone.fits
  | .axisSet _ channel mode depth reference tolerance pitch =>
    isByte channel ∧ isByte mode ∧ isByte depth ∧ isPosition reference ∧ isHalf tolerance ∧ isHalf pitch
  | .axisGet _ channel => isByte channel
  | .axisPreset _ channel position => isByte channel ∧ isPosition position
  | .craneSet _ crane values => isByte crane ∧ values.fits
  | .craneGet _ crane => isByte crane
  | .unitAbandon _ unit => isByte unit
  | .tableSet _ table values => isByte table ∧ values.fits
  | .tableGet _ table => isByte table
  | .tableQueue _ table start => isByte table ∧ isByte start
  | .tableSkip _ table => isByte table
  | .tableFlush _ table => isByte table
  | .tableResume _ table => isByte table
  | .tableWearReset _ table => isByte table
  | .arcGet _ table => isByte table
  | .markerSet _ marker lookAhead edgeMargin => isByte marker ∧ isPosition lookAhead ∧ isHalf edgeMargin
  | .markerGet _ marker => isByte marker
  | .piecePut _ values => values.fits
  | .pieceGet _ id => isHalf id
  | .pieceList _ start count _ => isHalf start ∧ isByte count
  | .pieceDrop _ id => isHalf id
  | .pieceReserve _ id tag => isHalf id ∧ isHalf tag
  | .pieceUnreserve _ id => isHalf id
  | .piecePlace _ id place => isHalf id ∧ place.fits
  | .pieceAmend _ id values => isHalf id ∧ values.fits
  | .stationSet _ station values => isByte station ∧ values.fits
  | .stationGet _ station => isByte station
  | .run _ _ => True
  | .cycleSet _ trim => -128 ≤ trim ∧ trim ≤ 127
  | .schedSet _ entry list => isByte entry ∧ isByte list.length ∧ ∀ n ∈ list, isByte n
  | .schedGet _ entry => isByte entry
  | .portEnable _ port => isByte port
  | .portDisable _ port => isByte port
  | .portAck _ port => port.fits
  | .deviceSet _ own report policy => isByte own ∧ (∀ n ∈ report, isByte n) ∧ isByte policy
  | .noticeMask _ _ | .noticeAck _ _ => True
  | .resetFull _ scope => isByte scope ∧ scope ≠ 1
  | .resetRuntime _ scope => isByte scope ∧ scope ≠ 0
  | .badRequest _ payload => payload.length ≤ payloadLimit
  | .foreignFrame _ etherType _ _ bytes => etherType ≠ Config.hallEtherType ∧ bytes.length ≤ ethernetLimit
  | .frameDropped raw => raw.bytes.length ≤ ethernetLimit
  | .hallFrameForward _ _ payload => payload.length ≤ payloadLimit
  | .move _ payload => payload.length ≤ payloadLimit
  | .lift _ payload => payload.length ≤ payloadLimit
  | .lower _ payload => payload.length ≤ payloadLimit
  | .arrest _ payload => payload.length ≤ payloadLimit
  | .seg _ payload => payload.length ≤ payloadLimit
  | .craneSample _ _ _ _ | .tableSample _ _ _ | .markerSample _ _ _ _ _ => True
  | .stationStale station => station ≤ 63
  | .stationSilent station => station ≤ 63
  | .notStarted _ | .opTimeout _ | .holdExpired _ | .stall _ | .lingerExpiry _ | .arcOverrun _ | .arcNoStart _ => True

end Sys2Proof
end

