-- ==== Sys2Proof/Tests/Slice0.lean ====
section
/-! SUPPORT. Small tests of the model: ill-formed commands that WellFormed refuses, worked figures of the manual, and for
each statement with hypotheses a state and operands that meet them. -/

namespace Sys2Proof.Machine

-- One proof at a time: many kernel evaluations side by side would each hold a thread and its stack.
set_option Elab.async false

/-! ## A small hall -/

def tReq : Req := ⟨.u, 10#8, 7#16⟩

/-- A header from source station 10 on Port U for a destination. -/
def tHead (dst src : Byte) : Header := ⟨.u, 0x020000000001#48, 0x020000000002#48, 1#8, dst, src, 7#16⟩

/-- The next state that an outcome answers with, where it does. -/
def after (o : Host.Outcome State Fault Refusal) : Option State :=
  match o with
  | .next t => some t
  | .fault _ | .refused _ => none

theorem exists_next {o : Host.Outcome State Fault Refusal} (h : (after o).isSome = true) : ∃ t, o = .next t := by
  cases o with
  | next t => exact ⟨t, rfl⟩
  | fault f => cases h
  | refused r => cases h

/-- A hall of 8 by 6 zones of 1000 counts with floor everywhere, both links up: station 1 is crane 0's, 2 table 0's, 3
marker 0's, 10 a source that may manage. -/
def tHall (run : RunState) : State :=
  (((({ State.reset with
          linkU := true, linkF := true, enableF := true, runState := run, started := decide (run ≠ .halted),
          geometrySet := true, bridge := ⟨0, 1000, 8⟩, trolley := ⟨0, 1000, 6⟩,
          zones := Vector.replicate 128 { use := .floor, capacity := 3 },
          channels := Vector.replicate 12 { position := 2500, homed := true, primed := true } }
      : State).modStation 1 fun x => { x with kind := .crane 0, freshness := .fresh }).modStation 2 fun x =>
        { x with kind := .table 0, freshness := .fresh }).modStation 3 fun x =>
        { x with kind := .marker 0, freshness := .fresh }).modStation 10 fun x =>
        { x with kind := .source, manage := true }

def tRecord (op : Operation) : OpRecord := { operation := op, source := 10#8, seq := 5#16, port := .u, entry := 0#32 }

def tFrame : Frame := framed (tHead 1#8 10#8) kindMove (put24 4000 ++ put24 4000)

def tEntry (kind : EntryKind) : Entry :=
  { kind := kind, segment := 4#16, piece := 0, tag := 0, arcLimit := 100, body := .plain, path := [], source := 10#8,
    seq := 6#16, marks := [] }

def tPiece : Piece :=
  { id := 3, kind := .plate, parent := none, grade := 1, thickness := 100, width := 2000, length := 3000,
    lifecycle := .available, location := .zone 18, tag := none, marked := false, partlyCut := false, revision := 4,
    changed := false }

/-- The hall with one piece in the zone of crane 0's hook. -/
def tStocked (run : RunState) : State :=
  ({ tHall run with stock := [tPiece] } : State).modZone 18 fun z => { z with stored := 1 }

/-! ## Ill-formed commands (WellFormed) -/

theorem test_wf_geometry_origin : ¬Instr.WellFormed (.geometrySet tReq 8388608 1 1 0 1 1) := by decide
theorem test_wf_geometry_pitch : ¬Instr.WellFormed (.geometrySet tReq 0 65536 1 0 1 1) := by decide
theorem test_wf_zone_set : ¬Instr.WellFormed (.zoneSet tReq 256 0 0 0) := by decide
theorem test_wf_zone_get : ¬Instr.WellFormed (.zoneGet tReq 256) := by decide
theorem test_wf_zone_ack : ¬Instr.WellFormed (.zoneAck tReq (.one 255)) := by decide
theorem test_wf_axis_set : ¬Instr.WellFormed (.axisSet tReq 0 0 2 (-8388609) 0 1) := by decide
theorem test_wf_axis_get : ¬Instr.WellFormed (.axisGet tReq 256) := by decide
theorem test_wf_axis_preset : ¬Instr.WellFormed (.axisPreset tReq 0 8388608) := by decide
theorem test_wf_crane_set : ¬Instr.WellFormed (.craneSet tReq 0 { settle := 256 }) := by decide
theorem test_wf_crane_get : ¬Instr.WellFormed (.craneGet tReq 256) := by decide
theorem test_wf_abandon : ¬Instr.WellFormed (.unitAbandon tReq 256) := by decide
theorem test_wf_table_set :
    ¬Instr.WellFormed (.tableSet tReq 0 ⟨none, 256, 4, 500, 200, 400, 2, 0, 1, 400, 0, 0⟩) := by decide
theorem test_wf_table_queue : ¬Instr.WellFormed (.tableQueue tReq 0 256) := by decide
theorem test_wf_table_numbers :
    ¬Instr.WellFormed (.tableGet tReq 256) ∧ ¬Instr.WellFormed (.tableSkip tReq 256) ∧
    ¬Instr.WellFormed (.tableFlush tReq 256) ∧ ¬Instr.WellFormed (.tableResume tReq 256) ∧
    ¬Instr.WellFormed (.tableWearReset tReq 256) ∧ ¬Instr.WellFormed (.arcGet tReq 256) := by decide
theorem test_wf_marker_set : ¬Instr.WellFormed (.markerSet tReq 0 0 65536) := by decide
theorem test_wf_marker_get : ¬Instr.WellFormed (.markerGet tReq 256) := by decide
theorem test_wf_piece_put :
    ¬Instr.WellFormed (.piecePut tReq ⟨65536, 1, none, 0, 30, 100, 100, ⟨1, 0⟩, none, false, false⟩) := by decide
theorem test_wf_piece_ids :
    ¬Instr.WellFormed (.pieceGet tReq 65536) ∧ ¬Instr.WellFormed (.pieceDrop tReq 65536) ∧
    ¬Instr.WellFormed (.pieceUnreserve tReq 65536) := by decide
theorem test_wf_piece_list : ¬Instr.WellFormed (.pieceList tReq 0 256 false) := by decide
theorem test_wf_piece_reserve : ¬Instr.WellFormed (.pieceReserve tReq 1 65536) := by decide
theorem test_wf_piece_place : ¬Instr.WellFormed (.piecePlace tReq 1 ⟨256, 0⟩) := by decide
theorem test_wf_piece_amend : ¬Instr.WellFormed (.pieceAmend tReq 1 ⟨0, 30, 65536, 100, false, false⟩) := by decide
theorem test_wf_station_set : ¬Instr.WellFormed (.stationSet tReq 1 ⟨0, 0, 0, false, false, 256⟩) := by decide
theorem test_wf_station_get : ¬Instr.WellFormed (.stationGet tReq 256) := by decide
theorem test_wf_cycle_set : ¬Instr.WellFormed (.cycleSet tReq 128) := by decide
theorem test_wf_sched_set : ¬Instr.WellFormed (.schedSet tReq 0 [256]) := by decide
theorem test_wf_sched_get : ¬Instr.WellFormed (.schedGet tReq 256) := by decide
theorem test_wf_ports :
    ¬Instr.WellFormed (.portEnable tReq 256) ∧ ¬Instr.WellFormed (.portDisable tReq 256) ∧
    ¬Instr.WellFormed (.portAck tReq (.one 255)) := by decide
theorem test_wf_device_set : ¬Instr.WellFormed (.deviceSet tReq 256 none 0) := by decide
theorem test_wf_resets :
    ¬Instr.WellFormed (.resetFull tReq 1) ∧ ¬Instr.WellFormed (.resetRuntime tReq 0) := by decide
theorem test_wf_foreign : ¬Instr.WellFormed (.foreignFrame .u 0x88B6#16 0 0 []) := by decide
theorem test_wf_long_frames :
    ¬Instr.WellFormed (.badRequest tReq (List.replicate 1493 0)) ∧
    ¬Instr.WellFormed (.frameDropped ⟨.u, true, 0, 0, 0x88B6#16, List.replicate 1501 0⟩) ∧
    ¬Instr.WellFormed (.hallFrameForward (tHead 1 10) 0x50#8 (List.replicate 1493 0)) := by decide +kernel
theorem test_wf_long_commands :
    ¬Instr.WellFormed (.move (tHead 1 10) (List.replicate 1493 0)) ∧
    ¬Instr.WellFormed (.lift (tHead 1 10) (List.replicate 1493 0)) ∧
    ¬Instr.WellFormed (.lower (tHead 1 10) (List.replicate 1493 0)) ∧
    ¬Instr.WellFormed (.arrest (tHead 1 10) (List.replicate 1493 0)) ∧
    ¬Instr.WellFormed (.seg (tHead 1 10) (List.replicate 1493 0)) := by decide +kernel
theorem test_wf_stations :
    ¬Instr.WellFormed (.stationStale 64) ∧ ¬Instr.WellFormed (.stationSilent 64) := by decide

theorem test_decode_spells_nothing (nbits w : Nat) : decodeTableWord nbits w = none := rfl

/-! ## Worked figures of the manual -/

def tWorked : State :=
  ((({ State.reset with
         geometrySet := true, bridge := ⟨1200, 2500, 24⟩, trolley := ⟨-400, 1800, 5⟩,
         stock := [{ tPiece with id := 9, width := 3200, length := 5400, location := .onCrane 1 }] }
     : State).modChannel 2 fun a => { a with position := 14930, pitch := 10000 }).modChannel 3 fun a =>
       { a with position := 3050, pitch := 5000 }).modCrane 1 fun k =>
       { k with config := { k.config with bridgeMargin := 300, trolleyMargin := 300 }, load := .piece 9 }

/-- Section 1.5: margins, hook zone, footprint and sweep of crane C1. -/
theorem test_worked_regions :
    tWorked.margins 1 (tWorked.loadRadius 1) = (570, 840) ∧ tWorked.hookZone 1 = some 29 ∧
    tWorked.footprint 1 2700 = [29, 53] ∧
    tWorked.sweep 1 2700 4100 6900 =
      [24, 25, 26, 27, 28, 29, 48, 49, 50, 51, 52, 53, 72, 73, 74, 75, 76, 77, 96, 97, 98, 99, 100, 101] := by
  decide +kernel

/-- Section 1.5, boundary cases: indices and ranges. -/
theorem test_worked_indices :
    (tWorked.bridge.index 6200, tWorked.bridge.index 6199, tWorked.bridge.index 900) = (2, 1, -1) ∧
    (tWorked.trolley.index (-2200), tWorked.trolley.index (-400), tWorked.trolley.index (-401)) = (-1, 0, -1) ∧
    tWorked.bridge.range 900 4000 = some (0, 1) ∧ tWorked.bridge.range (-5000) 1199 = none ∧
    tWorked.bridge.range 60000 63000 = some (23, 23) ∧ tWorked.bridge.range 61700 62300 = none := by decide +kernel

/-- Section 1.5: rounding upward and saturation of margins. -/
theorem test_worked_margins : radiusCounts 2701 10000 = 271 ∧ marginOf 300 40000 500 = 65535 := by decide

/-- Section 2.9: a two-sensor carriage with filter depth 1. -/
theorem test_worked_carriage :
    let ch0 : Channel := { depth := 1, position := 5, homed := true, primed := true,
                           lastValid := some ⟨false, false, false⟩ }
    let ch1 := (ch0.sample ⟨true, false, false, false⟩).1
    let ch2 := (ch1.sample ⟨false, false, false, false⟩).1
    let x3 := ch2.sample ⟨true, true, false, false⟩
    let ch4 := (x3.1.sample ⟨false, true, false, false⟩).1
    (ch1.position, ch2.position, x3.1.position, ch4.position) = (6, 5, 5, 6) ∧ x3.1.homed = false ∧
    x3.2 = [(evAxisSkip, 5)] ∧ (ch4.forward, ch4.backward) = (2#24, 1#24) := by decide +kernel

/-- Section 7.9: the dots of a line of 7 over 1,300 counts from 2,000, and of 3 over 13. -/
theorem test_worked_dots :
    (List.range 7).map (fun k => spanDot 2000 1300 7 (k + 1)) = [2185, 2371, 2557, 2742, 2928, 3114, 3300] ∧
    spanDots 0 13 3 = [4, 8, 13] := by decide +kernel

/-- R202: a loss of the Port F link in RUNNING with every flag clear raises the tag by 6 when no field station is FRESH. -/
theorem test_worked_status_tag :
    let s := { tHall .running with stations := State.reset.stations }
    let held := s.modCrane 0 fun k => { k with slot := .inFlight (tRecord .lower) }
    (after (exec .portFLinkDown held)).map (fun t => t.statusTag) = some 6#8 := by decide +kernel

/-- R13, R46: a MOVE of the small hall from (2500, 2500) to (4500, 2500) with margins of 500 claims columns 2 to 5 of rows
2 and 3 and leaves on Port F. -/
theorem test_move_admitted :
    (after (exec (.move (tHead 1#8 10#8) (put24 4500 ++ put24 2500)) (tHall .running))).map (fun t =>
      (t.claimedBy 0, t.sentF)) =
      some ([18, 19, 20, 21, 26, 27, 28, 29],
        [.hall (framed (tHead 1#8 10#8) kindMove (put24 4500 ++ put24 2500))]) := by decide +kernel

/-! ## Witnesses: a state and operands that meet the hypotheses of each statement that has any -/

def tR : State := tHall .running
def tH : State := tHall .halted

/-- The running hall with a MOVE waiting and a crane in flight that claims a zone. -/
def tWaiting : State :=
  { ((tStocked .running).modZone 40 fun z => { z with claim := some 1 }).modCrane 1 fun k =>
      { k with slot := .inFlight (tRecord (.move 4000 2500)), claimed := 1 } with
    pending := [.move (tHead 1#8 10#8) (put24 4500 ++ put24 2500)] }

theorem witness_StepTakesTheFront : State.reset.pending = [] := by decide

theorem witness_SupplyAndPowerOnValues :
    ({ State.reset with powered := false } : State).powered = false ∧ Instr.stop tReq ≠ .powerOn ∧
    Instr.stop tReq ≠ .supplyRemoved := by decide +kernel

theorem witness_StepKeepsClaimAndPermitApart :
    tWaiting.ZonesExclusive ∧ (tWaiting.zone 40).claim = some 1 ∧ ∃ t, step tWaiting = .next t :=
  ⟨by decide +kernel, by decide +kernel, exists_next (by decide +kernel)⟩

theorem witness_StepKeepsStoredCounts :
    tWaiting.StockCounted ∧ (tWaiting.zone 18).stored = 1 ∧ ∃ t, step tWaiting = .next t :=
  ⟨by decide +kernel, by decide +kernel, exists_next (by decide +kernel)⟩

theorem witness_StepSettlesRunControl :
    tWaiting.Settled ∧ tWaiting.runState = .running ∧ ∃ t, step tWaiting = .next t :=
  ⟨by decide +kernel, by decide +kernel, exists_next (by decide +kernel)⟩

theorem witness_StepKeepsNoticesFormed :
    tWaiting.NoticesFormed ∧ (tWaiting.raise .flow 3 0x10 24).NoticesFormed ∧ ∃ t, step tWaiting = .next t :=
  ⟨by decide +kernel, by decide +kernel, exists_next (by decide +kernel)⟩

theorem witness_StepKeepsChannelsFormed :
    tWaiting.ChannelsFormed ∧ (tWaiting.modChannel 0 fun a => { a with position := -8388608 }).ChannelsFormed ∧
    ∃ t, step tWaiting = .next t :=
  ⟨by decide +kernel, by decide +kernel, exists_next (by decide +kernel)⟩

theorem witness_StatusTagCountsChanges : Instr.portULinkDown.counted = true ∧ ∃ t, exec .portULinkDown tR = .next t :=
  ⟨by decide, exists_next (by decide +kernel)⟩

def tLine : Line :=
  { id := 4, start := 2000, length := 1300, dots := 7, refit := false, total := 7, spanBase := 2000, spanLength := 1300,
    spanDots := 7, accumulator := 1293, nextIndex := 1, produced := 0, issued := 0, struckBase := 0, unstruck := [],
    edgeTaken := false, replaceDue := false }

theorem witness_PlannedDotsByAccumulator :
    ((1 : Nat) ≤ 1 ∧ (1 : Nat) ≤ 1) ∧ ((1 : Nat) ≤ 7 ∧ (7 : Nat) ≤ 1300) ∧
    (tLine.accumulator = accumulatorAfter tLine.spanLength tLine.spanDots tLine.produced ∧
      1 ≤ tLine.spanDots ∧ tLine.spanDots ≤ tLine.spanLength ∧ tLine.produced < tLine.spanDots) ∧
    tLine.nextDot.1 = 2185 := by decide +kernel

theorem witness_LevelsAndHomingOfAChannel :
    ((1 : Nat) ≤ 4 ∧ (3 : Nat) < 4 ∧ ({} : Level).run = 0) ∧ ((1 : Nat) ≤ 1 ∧ (0 : Nat) < 1) ∧
    ({} : Channel).homed = false ∧ ({ homed := true } : Channel).homed = true ∧
    (let ch : Channel := { depth := 1, primed := true, position := 5, reference := 100 }
     ch.primed = true ∧ ch.resume = false ∧ ch.lref.level = false ∧ (ch.lref.take ch.depth true).level = true ∧
       (ch.sample ⟨true, false, false, true⟩).1.position = 100 ∧ (ch.sample ⟨true, false, false, true⟩).1.forward = 1) ∧
    (let ch : Channel := { mode := .three }
     ch.primed = false ∧ ({} : Channel).mode = .two ∧ ({} : Channel).primed = false ∧
       (⟨true, false, false⟩ : Phase).valid = true ∧ (⟨true, true, true⟩ : Phase).valid = false ∧
       (ch.sample ⟨true, true, true, true⟩).2 = [(2, 7)]) ∧
    (let ch : Channel := { primed := true, resume := true, homed := true, position := 9 }
     ch.primed = true ∧ ch.resume = true ∧ ch.mode = .two ∧ (ch.sample ⟨false, true, true, true⟩).2 = [(1, 9)]) ∧
    (let ch : Channel := { mode := .three, primed := true, resume := true, lastValid := some ⟨true, false, false⟩ }
     ch.primed = true ∧ ch.resume = true ∧ ch.mode = .three ∧ (ch.sample ⟨true, false, false, true⟩).2 = [] ∧
       (ch.sample ⟨false, false, false, true⟩).2 = [(2, 0)]) := by decide

theorem witness_AcceptedStatesCountSteps :
    ({} : Channel).mode = .two ∧
    (let ch : Channel := { mode := .three, lastValid := some ⟨true, false, false⟩, l1 := .set true }
     ch.mode = .three ∧ ch.phase.valid = true ∧ ch.lastValid = some ⟨true, false, false⟩) ∧
    (let ch : Channel := { mode := .three }
     ch.mode = .three ∧ ch.phase.valid = false) := by decide

theorem witness_ZoneIndexIsTheFloor :
    let g : AxisGeometry := ⟨-8388608, 1, 1⟩
    1 ≤ g.pitch ∧ 1 ≤ g.zones ∧ (-8388608 : Int) ≤ -8388608 ∧ g.range (-8388608) (-8388608) = some (0, 0) ∧
    g.range (-8388610) (-8388609) = none ∧ g.range (-8388607) 0 = none := by decide +kernel

theorem witness_ZoneRegionsNest :
    tR.hookZone 0 = some 18 ∧ 18 ∈ tR.footprint 0 0 ∧ tR.GeometryInRange ∧ (1 ≤ 10000 ∧ radiusCounts 2701 10000 = 271) ∧
    ((3 : Nat) ≠ 0 ∧ (tStocked .running).piece 3 = some tPiece ∧ tPiece.radius = 1500 ∧ tR.piece 3 = none) := by
  (repeat' with_reducible apply And.intro) <;> decide +kernel

/-- The free zones, a claimed and a permitted zone, and a zone of keep-out, under the footprint of crane 0. -/
theorem witness_RecomputeClaimsRegion :
    let s := ((tR.modZone 18 fun z => { z with claim := some 1 }).modZone 19 fun z => { z with permit := some 0 }).modZone
      26 fun z => { z with use := .keepOut }
    s.region 0 = ([18, 19, 26, 27], [18, 19, 26, 27]) ∧
    [18, 19, 26, 27].map (fun z => (s.zone z).freeFor 0) = [false, false, false, true] := by decide +kernel

/-- Crane 0 HELD on the Hold List since cycle 0, in cycle n. -/
def tHeld (n : CycleNo) : State :=
  { tR with cycle := n, hold := [⟨.crane 0, 0⟩] }.modCrane 0 fun k =>
    { k with slot := .held (tRecord (.move 4000 4000)) tFrame }

/-- Entries of the Hold List for every case of an examination: crane 0 HELD over free zones, with and without a step to
consume, held behind a claim, failing its own checks and unhomed; table 0 in PERMIT_WAIT. -/
theorem witness_RecomputeClaimsRegion_evaluation :
    let slot (op : Operation) : Slot := .held (tRecord op) tFrame
    let s := tHeld 0
    let stepping := { s with stepFlag := true }
    let spent := { stepping with stepConsumed := true }
    let behind := s.modZone 28 fun z => { z with claim := some 1 }
    let loaded := s.modCrane 0 fun k => { k with slot := slot (.lift 0 0), load := .untracked 0 }
    let lost := s.modChannel 0 fun a => { a with homed := false }
    let waiting := { tR with hold := [⟨.table 0, 0⟩] }.modTable 0 fun x => { x with state := .permitWait }
    let shrunk := tR.modZone 40 fun z => { z with claim := some 0 }
    ((s.crane 0).slot = slot (.move 4000 4000) ∧ s.craneValid 0 = true ∧
      s.classify 0 (s.requirement 0 (.move 4000 4000)) = .free ∧ s.ownCheck 0 (.move 4000 4000) = none ∧
      s.stepFlag = false ∧ (State.scan s.hold s).2 = [.grantCrane 0]) ∧
    (stepping.stepFlag = true ∧ stepping.stepConsumed = false ∧ (State.scan s.hold stepping).1.stepConsumed = true) ∧
    (spent.stepFlag = true ∧ spent.stepConsumed = true ∧ (State.scan s.hold spent).2 = []) ∧
    behind.classify 0 (behind.requirement 0 (.move 4000 4000)) = .held ∧
    (loaded.classify 0 (loaded.requirement 0 (.lift 0 0)) = .free ∧ loaded.ownCheck 0 (.lift 0 0) = some .loadPresent ∧
      (State.scan s.hold loaded).2 = [.refuseCrane 0 .loadPresent]) ∧
    lost.craneValid 0 = false ∧
    ((State.scan waiting.hold waiting).2 = [.grantTable 0] ∧ (waiting.table 0).yielders = []) ∧
    ((shrunk.zone 40).claim = some 0 ∧ 40 ∉ (shrunk.region 0).1 ∧
      (∀ z ∈ (shrunk.region 0).2, (shrunk.zone z).freeFor 0 = true) ∧ (shrunk.recompute 0).2 = [.eval]) ∧
    (tR.recompute 0).2 = [] ∧ s.ZonesExclusive := by
  intro slot s stepping spent behind loaded lost waiting shrunk
  (repeat' with_reducible apply And.intro) <;> decide +kernel

/-- New trespasses: of crane 0 over a claimed, a permitted and an unusable zone, and of crane 1, which has no station. -/
theorem witness_RecomputeClaimsRegion_trespass :
    let s := ((tR.modZone 18 fun z => { z with claim := some 1 }).modZone 19 fun z => { z with permit := some 0 }).modZone
      26 fun z => { z with use := .keepOut }
    let held := s.modCrane 0 fun k => { k with slot := .held (tRecord .lower) tFrame }
    s.GeometryInRange ∧ s.stationOf (.crane 0) = some 1 ∧ s.stationOf (.crane 1) = none ∧
    (s.crane 0).slot = .empty ∧ (∃ z < 128, (s.zone z).claim = some 1 ∧ z ∉ [19, 26]) ∧
    ((s.recompute 0).1.notice .guard).detail = some ⟨2, 0, 18⟩ ∧ ((s.recompute 0).1.table 0).state = .fault ∧
    ((s.recompute 0).1.crane 0).trespass = [18, 19, 26] ∧ (s.recompute 0).1.sentF.length = 2 ∧
    ((s.newTrespass 1 [18]).1.notice .guard).detail = some ⟨1, 1, 18⟩ ∧ (s.newTrespass 1 [18]).1.sentF = [] ∧
    ((held.newTrespass 0 [18]).1.crane 0).slot = .empty := by
  intro s held
  (repeat' with_reducible apply And.intro) <;> decide +kernel

theorem witness_FieldsReadAsWritten :
    (255 : Nat) ≤ 255 ∧ (65535 : Nat) ≤ 65535 ∧ (4294967295 : Nat) ≤ 4294967295 ∧ inPositionRange (-8388608) ∧
    inPositionRange 8388607 ∧ (∀ n ∈ some 65535, n ≤ 65535) := by decide

theorem witness_SegPayloadReadsBack :
    (tEntry .plateBegin).carriable ∧ (tEntry .pierceCut).carriable ∧ (tEntry .traverse).carriable ∧
    (tEntry (.other 0#8)).carriable ∧ (tEntry (.other 255#8)).carriable ∧
    Entry.carriable { tEntry .markLine with body := .line (-8388608) 65535 255 true } ∧
    Entry.carriable { tEntry .markText with body := .text 8388607 [65] } ∧
    Entry.carriable { tEntry .plateEnd with body := .rects [⟨65535, 65535, 65535⟩] } ∧
    Entry.carriable { tEntry .cut with path := [1, 2], piece := 65535, tag := 65535, arcLimit := 65535 } := by
  simp [Entry.carriable, tEntry, inPositionRange, positionMin, positionMax]

/-- A request from a station that may not manage, and the requests of no good source. -/
theorem witness_RequestsAreJudgedFirst :
    let other : Req := { tReq with src := 12#8 }
    (Instr.stop other).request = some (other, 0x0804#16) ∧ tR.powered = true ∧ tR.Settled ∧
    (1 ≤ other.src.toNat ∧ other.src.toNat ≤ 63 ∧ other.src.toNat ≠ tR.ownStation) ∧
    ¬((∃ n < 64, (tR.station n).manage = true) ∧ (tR.station other.src.toNat).kind = .source ∧
        (tR.station other.src.toNat).manage = true ∨
      (∀ n < 64, (tR.station n).manage = false) ∧ other.port = .u) ∧
    (0#8).toNat < 1 ∧ 63 < (64#8).toNat ∧ (61#8).toNat = tR.ownStation ∧ State.reset.enableF = false := by
  decide +kernel

theorem witness_ReadsChangeNothing :
    (Instr.zoneGet tReq 255).request = some (tReq, 0x0104#16) ∧ (Instr.zoneGet tReq 255).reads = true ∧
    tR.Takes tReq := by decide +kernel

theorem witness_GeometryGetReturns : tR.Takes tReq ∧ tR.geometrySet = true ∧ State.reset.Takes tReq := by
  decide +kernel

theorem witness_ZoneGetReturns : tR.Takes tReq ∧ 47 < tR.bridge.zones * tR.trolley.zones := by decide +kernel

theorem witness_UnitGetsReturn : tR.Takes tReq ∧ (12 : Nat) ≤ 12 ∧ (4 : Nat) ≤ 4 := by decide +kernel

/-- A table whose arc is ON over a cutting record, and one that has none. -/
theorem witness_TableReadsReturn :
    let s := (tR.modArc 0 fun a => { a with arc := .set true, primed := true }).modTable 0 fun x =>
      { x with flights := [⟨.cut, 3, 0, 100, 0⟩], released := 1 }
    s.Takes tReq ∧ (s.arc 0).arc.level = true ∧ (s.table 0).flights ≠ [] ∧
    (s.arc 1).arc.level = false ∧ (23 : Nat) ≤ 23 ∧ 24 ≤ 24 ∧ 6 ≤ 6 := by decide +kernel

theorem witness_PieceGetReturns : (tStocked .running).Takes tReq ∧ ((tStocked .running).piece 3).isSome = true := by
  decide +kernel

theorem witness_PieceListReturnsAndClears :
    let s := { tStocked .halted with stock := [{ tPiece with changed := true }, { tPiece with id := 65535 }] }
    s.Takes tReq ∧ (s.stock.filter fun p => decide (1 ≤ p.id ∧ p.changed = true)).length = 1 := by decide +kernel

theorem witness_HallGetsReturn : tR.Takes tReq ∧ (63 : Nat) ≤ 63 ∧ (64 : Nat) ≤ 64 ∧ (32 : Nat) ≤ 32 := by
  decide +kernel

/-- Zone 19 owned by a table with a queue. -/
def tOwned : State :=
  (tH.modZone 19 fun z => { z with use := .table 2 }).modTable 2 fun x => { x with state := .queued, queue := [tEntry .cut] }

theorem witness_GeometrySetWrites :
    tR.Takes tReq ∧ tR.runState ≠ .halted ∧ (tStocked .halted).Takes tReq ∧ (tStocked .halted).runState = .halted ∧
    (inPositionRange (-8388608) ∧ inPositionRange 8388607 ∧ 8 * 16 ≤ 128 ∧ ¬(32 * 16 ≤ 128)) ∧
    (tStocked .halted).pieceBeyond 18 = true ∧ (tStocked .halted).pieceBeyond 19 = false ∧
    (∀ z < 128, ((tStocked .halted).zone z).use = .floor) ∧
    (tOwned.Takes tReq ∧ (tOwned.zone 19).use = .table 2 ∧ (tOwned.table 2).state ≠ .idle) := by
  (repeat' with_reducible apply And.intro) <;> decide +kernel

theorem witness_ZoneSetAndAckWrite : tR.Takes tReq ∧ tR.zoneCount = 48 := by decide +kernel

/-- A crane at work holds its channels; without one AXIS.SET is taken, with and without a change of mode. -/
theorem witness_AxisSetAndPresetWrite :
    (let s := tR.modCrane 0 fun k => { k with slot := .inFlight (tRecord .lower) }
     s.Takes tReq ∧ s.runState ≠ .halted ∧ s.ownerFree 1 = false) ∧
    tR.Takes tReq ∧ ¬(tR.runState ≠ .halted ∧ tR.ownerFree 11 = false) ∧
    ((1 : Nat) ≤ 1 ∧ (1 : Nat) ≤ 4 ∧ inPositionRange 8388607 ∧ (65535 : Nat) ≤ 65535) ∧
    Mode.three ≠ (tR.channel 11).mode ∧ Mode.two = (tR.channel 11).mode ∧ 3 ≠ (tR.channel 11).depth ∧
    (12 : Nat) ≤ 12 := by decide +kernel

theorem witness_CraneAndMarkerSetWrite : tR.Takes tReq ∧ (4 : Nat) ≤ 4 := by decide +kernel

/-- Table 0 at work, and QUEUED in HALTED; marker 3 named by table 5. -/
def tActive : State := tR.modTable 0 fun x => { x with state := .active, queue := [tEntry .cut] }
def tQueued : State := tH.modTable 0 fun x => { x with state := .queued, queue := [tEntry .cut] }
def tNamed : State := tR.modTable 5 fun x => { x with config := { x.config with marker := some 3 } }
def tArgs : TableArgs := ⟨some 3, 4, 23, 65535, 10000, 5000, 4, 1, 0, 30000, 4294967295, 0⟩

theorem witness_TableSetWrites :
    tR.Takes tReq ∧ (6 : Nat) ≤ 6 ∧
    (tActive.Takes tReq ∧ (tActive.table 0).state ≠ .idle ∧ (tActive.table 0).state ≠ .queued) ∧
    tableConfigOf { tArgs with window := 5 } = none ∧
    ((tableConfigOf tArgs).bind TableConfig.marker = some 3 ∧ ∀ u : Fin 6, u ≠ 0 → (tR.table u).config.marker ≠ some 3) ∧
    (tNamed.Takes tReq ∧ (5 : Fin 6) ≠ 0 ∧ (tNamed.table 5).config.marker = some 3) ∧
    (tQueued.Takes tReq ∧ (tQueued.table 0).state = .queued ∧ tQueued.runState ≠ .running) := by
  (repeat' with_reducible apply And.intro) <;> decide +kernel

/-- R64: the ends of the ranges, and one beyond each of some. -/
theorem witness_TableSetWrites_ranges :
    (tableConfigOf tArgs).isSome = true ∧
    (tableConfigOf ⟨none, 1, 1, 50, 0, 10, 1, 0, 1, 100, 0, 4294967295⟩).isSome = true ∧
    [{ tArgs with marker := some 4 }, { tArgs with lowWater := 24 }, { tArgs with stallLimit := 49 },
      { tArgs with linger := 10001 }, { tArgs with ignite := 9 }, { tArgs with arcDepth := 0 },
      { tArgs with minSide := 30001 }].map tableConfigOf = List.replicate 7 none := by decide +kernel

/-- Table 0 in HEAD_ERROR, in FAULT with an entry in flight, and IDLE. -/
def tErring : State := tH.modTable 0 fun x => { x with state := .headError, queue := [tEntry .cut] }
def tFaulted : State :=
  tH.modTable 0 fun x => { x with state := .fault, released := 1, flights := [⟨.traverse, 3, 0, 0, 0⟩] }

theorem witness_TableRecoveryRequestsWrite :
    tH.Takes tReq ∧ (6 : Nat) ≤ 6 ∧ (tH.table 0).state ≠ .headError ∧ (tH.table 0).state ≠ .fault ∧
    (tErring.Takes tReq ∧ (tErring.table 0).state = .headError ∧ tErring.runState = .halted ∧
      (tErring.table 0).permit = false) ∧
    (tActive.Takes tReq ∧ (tActive.table 0).state = .active) ∧
    (tFaulted.Takes tReq ∧ (tFaulted.table 0).inFlight ≠ 0) ∧
    ((tErring.table 0).state ≠ .active ∧ (tErring.table 0).state ≠ .yielding ∧ (tErring.table 0).inFlight = 0 ∧
      (tErring.arc 0).arc.level = false) ∧
    ((tFaulted.table 0).state = .fault ∧ (tFaulted.arc 0).arc.level = false ∧ tFaulted.runState = .halted ∧
      (tFaulted.table 0).permit = false ∧ (tFaulted.table 0).flights ≠ []) ∧
    (let s := tFaulted.modArc 0 fun a => { a with arc := .set true, primed := true }
     s.Takes tReq ∧ (s.arc 0).arc.level = true ∧ s.isFresh (.table 0) = true) := by
  (repeat' with_reducible apply And.intro) <;> decide +kernel

/-- Table 0 in HEAD_ERROR and in FAULT with its permit held, and with a requester in its set. -/
theorem witness_TableRecoveryRequestsWrite_permit :
    let erring := tErring.modTable 0 fun x => { x with permit := true, yielders := [0] }
    let faulted := tFaulted.modTable 0 fun x => { x with permit := true, released := 0, flights := [] }
    (erring.Takes tReq ∧ (erring.table 0).state = .headError ∧
      (((erring.removeHead 0).table 0).permit = true ∧ ((erring.removeHead 0).table 0).yielders ≠ [])) ∧
    (faulted.Takes tReq ∧ (faulted.table 0).state = .fault ∧ (faulted.table 0).permit = true ∧
      (faulted.table 0).inFlight = 0 ∧ (faulted.arc 0).arc.level = false) := by
  intro erring faulted
  (repeat' with_reducible apply And.intro) <;> decide +kernel

theorem witness_WearResetReturnsAndZeroes : tR.Takes tReq ∧ (6 : Nat) ≤ 6 := by decide +kernel

/-- The hall with the stations of crane 0 and table 0 lost, the crane's LOWER in flight. -/
def tLost (run : RunState) : State :=
  ((tHall run).modStation 1 fun x => { x with freshness := .stale }).modStation 2 fun x => { x with freshness := .stale }

theorem witness_AbandonEndsLostUnits :
    tR.Takes tReq ∧ (4 ≤ 15 ∧ 15 < 0x10) ∧ 0x16 ≤ 22 ∧ tR.isLost (.crane 0) = false ∧ tR.isLost (.table 0) = false ∧
    ((tLost .running).Takes tReq ∧ (tLost .running).isLost (.crane 0) = true ∧
      ((tLost .running).crane 0).slot = .empty) ∧
    (let s := (tLost .running).modCrane 0 fun k => { k with slot := .inFlight (tRecord .lower) }
     s.Takes tReq ∧ s.isLost (.crane 0) = true ∧ (s.crane 0).slot = .inFlight (tRecord .lower) ∧
       s.runState ≠ .stopping) ∧
    ((tLost .halted).Takes tReq ∧ (tLost .halted).isLost (.table 0) = true ∧ (tLost .halted).runState = .halted ∧
      ((tLost .halted).table 0).state ≠ .fault) := by
  (repeat' with_reducible apply And.intro) <;> decide +kernel

/-- The lost crane 0 HELD, and the lost table 0 in FAULT with its permit. -/
theorem witness_AbandonEndsLostUnits_held :
    (let s := (tHeld 0).modStation 1 fun x => { x with freshness := .stale }
     s.Takes tReq ∧ s.isLost (.crane 0) = true ∧ (s.crane 0).slot = .held (tRecord (.move 4000 4000)) tFrame) ∧
    (let s := (tLost .running).modTable 0 fun x => { x with state := .fault, permit := true }
     s.Takes tReq ∧ s.isLost (.table 0) = true ∧ (s.table 0).state = .fault ∧ (s.table 0).permit = true) := by
  (repeat' with_reducible apply And.intro) <;> decide +kernel

/-- R113, R115, R119, R123: the arc of table 0, ON since cycle 3 over an entry in flight, is a fall at the abandon and at
a change of its station. -/
theorem test_lit_arc_falls :
    let s := (({ tR with cycle := 9#32 }).modTable 0 fun x => { x with flights := [⟨.cut, 3, 0, 100, 0⟩] }).modArc 0
      fun a => { a with primed := true, arc := { level := true, run := 1 }, lastEdge := 3#32, base := 2#32,
                        episode := true, platePierces := 5 }
    let ends (a : Arc) := (a.arc, a.lastOn, a.lastEdge, a.base, a.episode, a.primed, a.platePierces)
    ends ((s.abandonTable 0).1.arc 0) = ({}, 6#32, 9#32, 9#32, false, true, 5) ∧
    ends ((s.rebind (.table 0)).arc 0) = ({}, 6#32, 9#32, 2#32, false, false, 5) := by
  intro s ends
  (repeat' with_reducible apply And.intro) <;> decide +kernel

theorem witness_PiecePutAndDropWrite :
    (tStocked .halted).Takes tReq ∧
    (tStocked .halted).putArguments ⟨65535, 2, some 1, 255, 1500, 30000, 100, ⟨1, 47⟩, some 65535, true, true⟩ =
      some (.remnant, .zone 47) ∧
    (tStocked .halted).putArguments ⟨1, 1, none, 0, 29, 100, 100, ⟨1, 0⟩, none, false, false⟩ = none ∧
    (tStocked .halted).piece 3 = some tPiece ∧ (tStocked .halted).piece 4 = none := by decide +kernel

/-- A STOCK frame with and without a report station, and a record put between two others. -/
theorem witness_PiecePutAndDropWrite_frame :
    let l : List Piece := [{ tPiece with id := 2 }, { tPiece with id := 9 }]
    let told := ({ tR with report := some 62 }).stockFrame .consumed 4 tPiece
    l.Pairwise (fun x y => x.id < y.id) ∧ (∀ q ∈ l, q.id ≠ tPiece.id) ∧
    (insertPiece tPiece l).map (fun p => p.id) = [2, 3, 9] ∧
    (told.stockCounter, told.sentU.length) = (1#16, 1) ∧
    ((tR.stockFrame .created 0 tPiece).stockCounter, (tR.stockFrame .created 0 tPiece).sentU) = (1#16, []) := by
  decide +kernel

theorem witness_RecordRequestsWrite :
    (tStocked .running).Takes tReq ∧ (tStocked .running).piece 3 = some tPiece ∧
    placeOf ⟨1, 19⟩ = some (.zone 19) ∧ (tStocked .running).placeRefusal (.zone 19) = none := by decide +kernel

/-- Station 1 names crane 0 already; station 4 may take crane 1; station 1 may be given up, or keep its kind. -/
theorem witness_StationSetWrites :
    let busy := tR.modCrane 0 fun k => { k with slot := .inFlight (tRecord .lower) }
    tR.Takes tReq ∧ 63 < 64 ∧ (1 ≤ 61 ∧ 61 ≤ 63 ∧ 61 = tR.ownStation) ∧ (1 ≤ 63 ∧ 63 ≤ 63 ∧ 63 ≠ tR.ownStation) ∧
    stationValues ⟨1, 4, 0, false, false, 8⟩ = none ∧
    stationValues ⟨1, 0, 0, false, true, 15⟩ = some (.crane 0, .field) ∧
    (StationKind.crane 0).isBound = true ∧ (tR.station 1).kind = .crane 0 ∧
    stationValues ⟨1, 1, 0, false, false, 2⟩ = some (.crane 1, .field) ∧
    (∀ m < 64, (tR.station m).kind ≠ .crane 1) ∧ (tR.station 63).kind ≠ .crane 1 ∧
    tR.unitIdle (.crane 1) = true ∧ tR.unitIdle (tR.station 63).kind = true ∧
    (busy.Takes tReq ∧ busy.unitIdle (busy.station 1).kind = false) := by
  intro busy
  (repeat' with_reducible apply And.intro) <;> decide +kernel

theorem witness_RunStartsTheCycle :
    tR.Takes tReq ∧
    ¬(tR.runState = .halted ∧ tR.enableF = true ∧ tR.linkF = true ∧ tR.geometrySet = true) ∧
    tH.Takes tReq ∧ tH.runState = .halted ∧ tH.enableF = true ∧ tH.linkF = true ∧ tH.geometrySet = true ∧ tH.Quiet ∧
    tQueued.Takes tReq ∧ tQueued.runState = .halted ∧ tQueued.enableF = true ∧ tQueued.linkF = true ∧
    tQueued.geometrySet = true ∧ (tQueued.table 0).state = .queued := by
  (repeat' with_reducible apply And.intro) <;> decide +kernel

theorem witness_StoppingEmptiesTheHoldList :
    tH.Takes tReq ∧ tH.runState ≠ .running ∧ tR.Takes tReq ∧ tR.runState = .running ∧ tR.Quiet ∧
    (let s := { tR with stepFlag := true, stepConsumed := true }
     s.stepFlag = true ∧ s.stepConsumed = true ∧ s.runState = .running) := by
  (repeat' with_reducible apply And.intro) <;> decide +kernel

/-- The acts: a grant of the HELD crane, table 0 YIELDING with an empty queue and with a TRAVERSE at its head, its linger
run out, its permit held in STOPPING, and at rest. -/
theorem witness_StoppingEmptiesTheHoldList_acts :
    let yielding := tR.modTable 0 fun x => { x with state := .yielding, permit := true, yielders := [0] }
    let cutting := yielding.modTable 0 fun x => { x with queue := [tEntry .traverse] }
    let lingering := tR.modTable 0 fun x => { x with state := .active, permit := true, linger := 200 }
    let stopping := (tHall .stopping).modTable 0 fun x => { x with state := .active, permit := true }
    ((tHeld 0).crane 0).slot = .held (tRecord (.move 4000 4000)) tFrame ∧
    (yielding.runState = .running ∧ (yielding.table 0).state = .yielding ∧ (yielding.table 0).inFlight = 0 ∧
      (yielding.arc 0).arc.level = false ∧ (yielding.table 0).queue = []) ∧
    ((cutting.table 0).queue = [tEntry .traverse] ∧ (tEntry .traverse).kind ≠ .cut) ∧
    (lingering.lingerDue 0 = true ∧ (lingering.table 0).state ≠ .yielding) ∧
    (stopping.runState = .stopping ∧ (stopping.table 0).permit = true ∧ (stopping.table 0).inFlight = 0 ∧
      (stopping.arc 0).arc.level = false ∧ (stopping.table 0).state = .active) ∧
    (tR.lingerDue 0 = false ∧ tR.runState ≠ .stopping ∧ (tR.table 0).state ≠ .yielding) := by
  intro yielding cutting lingering stopping
  (repeat' with_reducible apply And.intro) <;> decide +kernel

/-- STOP with crane 0 HELD and table 0 waiting in the list, and with nothing at work. -/
theorem witness_StoppingEmptiesTheHoldList_entry :
    let s := { tHeld 0 with hold := [⟨.crane 0, 0⟩, ⟨.table 0, 0⟩] }.modTable 0 fun x =>
      { x with state := .permitWait, queue := [tEntry .cut] }
    let e : HoldEntry := ⟨.crane 1, 0⟩
    s.Takes tReq ∧ s.runState = .running ∧ (s.crane 0).slot = .held (tRecord (.move 4000 4000)) tFrame ∧
    (∃ e ∈ s.hold, e.unit = .crane 0) ∧ (∃ e ∈ s.hold, e.unit = .table 0) ∧
    ((s.crane 1).slot = .empty ∧ s.stopEntry e = s) ∧
    (after (exec (.stop tReq) s)).map (fun t => ((t.crane 0).slot, (t.table 0).state, t.hold, t.runState)) =
      some (.empty, .queued, [], .halted) ∧
    (tR.workDone = true ∧ s.workDone = false) := by
  intro s e
  (repeat' with_reducible apply And.intro) <;> decide +kernel

theorem witness_CycleSetAndSchedSetWrite :
    tR.Takes tReq ∧ (32 : Nat) ≤ 32 ∧
    ¬([1, 2, 3, 4, 5, 6, 7].length ≤ 6) ∧ ¬[1, 1].Nodup ∧
    [1, 2, 3, 10, 62, 63].length ≤ 6 ∧ (∀ n ∈ [1, 2, 3, 10, 62, 63], 1 ≤ n ∧ n ≤ 63 ∧ n ≠ tR.ownStation) ∧
    [1, 2, 3, 10, 62, 63].Nodup := by
  (repeat' with_reducible apply And.intro) <;> decide +kernel

theorem witness_PortRequestsWrite : tR.Takes tReq ∧ tR.linkF = true ∧ tH.Takes tReq ∧ tH.runState = .halted ∧ 2 ≤ 2 := by
  decide +kernel

theorem witness_DeviceSetWrites :
    tR.Takes tReq ∧ tR.runState ≠ .halted ∧ tH.Takes tReq ∧ tH.runState = .halted ∧
    (1 ≤ 63 ∧ 63 ≤ 63 ∧ 63 ≠ tH.ownStation ∧ (tH.station 63).kind = .none ∧ ∀ e : Fin 32, 63 ∉ tH.scheduleEntry e) ∧
    ((tH.station 1).kind ≠ .none ∧ 1 ≠ tH.ownStation) ∧ tH.report = none ∧
    (∀ n ∈ some 62, 1 ≤ n ∧ n ≤ 63 ∧ n ≠ 63) := by
  (repeat' with_reducible apply And.intro) <;> decide +kernel

theorem witness_NoticeMaskAndAckWrite :
    let masked := { (tR.setNotice .flow { masked := true }).raise .flow 3 0x10 24 with report := some 62 }
    tR.Takes tReq ∧ ((tR.raise .guard 1 0 18).notice .guard).pending = true ∧ (0xFF#8).getLsbD 0 = true ∧
    (masked.Takes tReq ∧ masked.report = some 62 ∧ (masked.notice .flow).masked = true ∧
      (masked.notice .flow).pending = true ∧ (masked.notice .flow).unsent = true ∧ masked.linkU = true ∧
      (after (exec (.noticeMask tReq 0) masked)).map (fun t => (t.origin, t.sentU.length)) = some (1#16, 2) ∧
      (after (exec (.noticeMask tReq 0xFF) masked)).map (fun t => (t.origin, t.sentU.length)) = some (0#16, 1)) := by
  intro masked
  (repeat' with_reducible apply And.intro) <;> decide +kernel

/-- An occurrence reported, formed without a report station, of a masked class, and of a pending class at its top count. -/
theorem witness_NoticeMaskAndAckWrite_occurrence :
    let told := { tR with report := some 62 }
    let masked := told.setNotice .wear { masked := true }
    let full := told.setNotice .wear { pending := true, unsent := true, count := 255 }
    let ends (s : State) := ((s.notice .wear), s.origin, s.sentU.length)
    NoticeClass.guard ≠ .wear ∧
    ends (told.raise .wear 2 0x10 1) = (⟨true, false, false, 1, some ⟨2, 0x10, 1⟩⟩, 1#16, 1) ∧
    ends (tR.raise .wear 2 0x10 1) = (⟨true, true, false, 1, some ⟨2, 0x10, 1⟩⟩, 1#16, 0) ∧
    ends (masked.raise .wear 2 0x10 1) = (⟨true, true, true, 1, some ⟨2, 0x10, 1⟩⟩, 0#16, 0) ∧
    ends (full.raise .wear 2 0x10 1) = (⟨true, true, false, 255, some ⟨2, 0x10, 1⟩⟩, 0#16, 0) := by
  intro told masked full ends
  (repeat' with_reducible apply And.intro) <;> decide +kernel

theorem witness_ResetsClearTheBlocks :
    let s := { tStocked .halted with stock := [{ tPiece with lifecycle := .inCut, location := .onTable 5 }] }.modTable 5
      fun x => { x with plate := some 3 }
    tR.Takes tReq ∧ tR.runState ≠ .halted ∧ (s.Takes tReq ∧ s.runState = .halted ∧ (s.table 5).plate = some 3) ∧ 2 ≤ 2 ∧
    s.piece 3 = some { tPiece with lifecycle := .inCut, location := .onTable 5 } ∧ s.piece 4 = none := by
  intro s
  (repeat' with_reducible apply And.intro) <;> decide +kernel

theorem witness_BadRequestIsAnswered :
    tR.powered = true ∧ tR.Settled ∧ tR.portTakes tReq.port = true ∧ tR.sourceGood tReq.src = true ∧
    tR.mayManage tReq = true ∧ badRequestPayload [1] = true ∧ badRequestPayload [0xFF, 0xFF] = true ∧
    tR.mayManage { tReq with src := 12#8 } = false ∧ tR.sourceGood 12#8 = true := by decide +kernel

theorem witness_ForeignAndBadFramesPassOrDrop :
    tR.powered = true ∧ tR.Settled ∧ (tR.enableF = true ∧ tR.linkU = true ∧ tR.linkF = true) ∧
    (0x0800#16 : Half) ≠ 0x88B6#16 ∧ [1, 2, 3, 4, 5, 6, 7].length < 8 ∧
    ([] : List Byte).length < (0#8).toNat * 256 + (1#8).toNat ∧ 63 < (64#8).toNat ∧ State.reset.enableF = false := by
  decide +kernel

/-- Frames at the own number 61: of version 2, of kind MOVE, and SAMPLEs of source station 10 and of a length that is not
crane 0's, mirrored. -/
theorem witness_ForeignAndBadFramesPassOrDrop_own :
    let raw (version kind src : Byte) : RawFrame := ⟨.u, true, 0, 0, 0x88B6#16, [version, kind, 61, src, 0, 7, 0, 2, 5, 6]⟩
    let s := (tR.modStation 10 fun x => { x with mirror := true }).modStation 1 fun x => { x with mirror := true }
    let copies (f : Instr) := (after (exec f s)).map fun t => t.sentU.length
    s.powered = true ∧ s.Settled ∧ (61#8).toNat = s.ownStation ∧ (61#8).toNat ≤ 63 ∧ s.portTakes .u = true ∧
    s.sourceGood 10 = true ∧ s.sourceGood 1 = true ∧ (0#8).toNat * 256 + (2#8).toNat ≤ [5#8, 6#8].length ∧
    (s.station 10).kind = .source ∧ ((s.station 1).kind = .crane 0 ∧ [5#8, 6#8].length ≠ 3) ∧
    copies (.frameDropped (raw 2 3 10)) = some 0 ∧ copies (.frameDropped (raw 1 0x10 10)) = some 0 ∧
    copies (.frameDropped (raw 1 3 10)) = some 1 ∧ copies (.frameDropped (raw 1 3 1)) = some 1 ∧
    (s.Hears (tHead 61#8 10#8) ∧ copies (.craneSample (tHead 61#8 10#8) 0 0 0) = some 1) := by
  intro raw s copies
  (repeat' with_reducible apply And.intro) <;> decide +kernel

theorem witness_HallFramesForwardUnchanged :
    let h := tHead 1#8 10#8
    let two (dst : Byte) : Header := { tHead dst 10#8 with version := 2#8 }
    tR.powered = true ∧ tR.Settled ∧ tR.portTakes h.port = true ∧ (1 ≤ h.dst.toNat ∧ h.dst.toNat ≤ 63) ∧
    tR.sourceGood h.src = true ∧ h.dst.toNat ≠ tR.ownStation ∧
    ((0x03#8 : Byte) ∉ [0x10#8, 0x11#8, 0x12#8, 0x20#8] ∧ (0x03#8 : Byte) ≠ 0x13#8) ∧
    (0x10#8 : Byte) ∉ [0x01#8, 0x02#8, 0x21#8] ∧ (tR.station h.dst.toNat).kind ≠ .none ∧ (tR.station 63).kind = .none ∧
    ((two 0#8).version ≠ 1#8 ∧ (two 0#8).dst.toNat ≤ 63 ∧ (two 0#8).dst.toNat ≠ tR.ownStation) ∧
    ((tR.station 10).kind.isBound = false ∧ tR.Hears (tHead 10#8 1#8)) ∧
    (tR.Hears (tHead 3#8 10#8) ∧ (tR.station 3).kind = .marker 0 ∧ 3 ≠ tR.ownStation) ∧
    tR.Hears (tHead 0#8 10#8) ∧ tR.ownStation ≠ 0 := by
  intro h two
  (repeat' with_reducible apply And.intro) <;> decide +kernel

/-- Crane 0 with the piece hooked, over a zone with room. -/
def tLoaded : State :=
  { tR with stock := [{ tPiece with location := .onCrane 0 }] }.modCrane 0 fun k =>
    { k with load := .piece 3, latchPrimed := true, latch := .set true }

theorem witness_FreeCraneCommandsAreAdmitted :
    let s := tStocked .running
    let h := tHead 1#8 10#8
    s.Delivers h (.crane 0) ∧ s.runState = .running ∧ s.stepFlag = false ∧ (s.station h.src.toNat).kind = .source ∧
    s.craneValid 0 = true ∧ (s.crane 0).slot = .empty ∧ (s.crane 0).moving = false ∧
    (operationOf kindMove (put24 4500 ++ put24 (-8388608)) = some (.move 4500 (-8388608)) ∧
      s.classify 0 (s.sweep 0 (s.loadRadius 0) 4500 (-8388608)) = .free) ∧
    (operationOf kindLift (put16 3 ++ put16 65535) = some (.lift 3 65535) ∧ s.liftCheck 0 3 = none ∧
      s.classify 0 (s.footprint 0 (s.liftRadius 3 65535)) = .free) ∧
    (tLoaded.Delivers h (.crane 0) ∧ tLoaded.lowerCheck 0 = none ∧ (tLoaded.crane 0).slot = .empty ∧
      tLoaded.craneValid 0 = true ∧ (tLoaded.crane 0).moving = false) := by
  intro s h
  (repeat' with_reducible apply And.intro) <;> decide +kernel

/-- STEP mode with its step left: a MOVE, a LIFT and a LOWER that are free. -/
theorem witness_FreeCraneCommandsAreAdmitted_step :
    let s := { tStocked .running with stepFlag := true }
    let loaded := { tLoaded with stepFlag := true }
    let h := tHead 1#8 10#8
    let ends (i : Instr) (s : State) := (after (exec i s)).map fun t => (t.runState, t.stopCause, t.stepDone)
    s.Delivers h (.crane 0) ∧ s.runState = .running ∧ s.stepFlag = true ∧ (s.station h.src.toNat).kind = .source ∧
    s.craneValid 0 = true ∧ (s.crane 0).slot = .empty ∧ (s.crane 0).moving = false ∧
    s.classify 0 (s.sweep 0 (s.loadRadius 0) 4500 2500) = .free ∧
    (s.liftCheck 0 3 = none ∧ s.classify 0 (s.footprint 0 (s.liftRadius 3 65535)) = .free) ∧
    (loaded.Delivers h (.crane 0) ∧ loaded.runState = .running ∧ loaded.lowerCheck 0 = none ∧
      (loaded.crane 0).slot = .empty ∧ loaded.craneValid 0 = true ∧ (loaded.crane 0).moving = false) ∧
    ends (.move h (put24 4500 ++ put24 2500)) s = some (.stopping, .stepDone, true) ∧
    ends (.lift h (put16 3 ++ put16 65535)) s = some (.stopping, .stepDone, true) ∧
    ends (.lower h []) loaded = some (.stopping, .stepDone, true) := by
  intro s loaded h ends
  (repeat' with_reducible apply And.intro) <;> decide +kernel

/-- Every answer of the checks of a LIFT and of a LOWER, and of the classification of a set. -/
theorem witness_OtherCraneCommandsAreRefusedOrHeld_checks :
    let zoned (use : Use) (capacity : Nat) : State :=
      (tLoaded.modZone 18 fun z => { z with use := use, capacity := capacity }).modTable 0 fun x =>
        { x with config := { x.config with markFirst := true } }
    let laid (life : Lifecycle) (place : Location) : State :=
      { (zoned (.table 0) 0).modCrane 0 fun k => { k with load := .none } with
        stock := [{ tPiece with lifecycle := life, location := place }] }
    let occupied := (zoned (.table 0) 0).modTable 0 fun x => { x with state := .queued }
    let away := tLoaded.modChannel 0 fun a => { a with position := -1 }
    (tLoaded.liftCheck 0 0 = some .loadPresent ∧ (laid .available (.zone 18)).liftCheck 0 0 = none) ∧
    (laid .available (.zone 18)).liftCheck 0 4 = some .pieceUnknown ∧
    (laid .available (.zone 18)).liftCheck 0 3 = none ∧ (laid .available (.zone 19)).liftCheck 0 3 = some .pieceNotHere ∧
    (laid .inCut (.onTable 0)).liftCheck 0 3 = some .pieceInCut ∧
    (laid .awaitingMark (.onTable 0)).liftCheck 0 3 = some .notMarked ∧
    (laid .awaitingMark (.zone 18)).liftCheck 0 3 = none ∧
    (tR.lowerCheck 0 = some .noLoad ∧ away.hookZone 0 = none ∧ away.lowerCheck 0 = some .zoneUnusable) ∧
    ((zoned .rack 0).lowerCheck 0 = some .zoneFull ∧ (zoned .rack 1).lowerCheck 0 = none) ∧
    ((zoned (.table 0) 0).lowerCheck 0 = none ∧ occupied.lowerCheck 0 = some .tableOccupied) ∧
    ((zoned .aisle 1).lowerCheck 0 = some .zoneUnusable ∧ (zoned .keepOut 1).lowerCheck 0 = some .zoneUnusable) ∧
    ((zoned .keepOut 0).classify 0 [18] = .keepOut ∧ tR.classify 0 [18] = .free) := by
  intro zoned laid occupied away
  (repeat' with_reducible apply And.intro) <;> decide +kernel

/-- Crane 0 in the states of each refusal, and held behind a claim. -/
theorem witness_OtherCraneCommandsAreRefusedOrHeld :
    let h := tHead 1#8 10#8
    let other := tHead 1#8 12#8
    let stopping := (tHall .stopping).modCrane 0 fun k => { k with slot := .inFlight (tRecord .lower) }
    let unhomed := tR.modChannel 0 fun a => { a with homed := false }
    let busy := tR.modCrane 0 fun k => { k with slot := .inFlight (tRecord .lower) }
    let moving := tR.modCrane 0 fun k => { k with moving := true }
    let outside := tR.modZone 28 fun z => { z with use := .keepOut }
    let claimed := tR.modZone 28 fun z => { z with claim := some 1 }
    operationOf 0x10#8 (put24 4500 ++ put24 2500) = some (.move 4500 2500) ∧ operationOf 0x12#8 [] = some .lower ∧
    operationOf 0x11#8 (put16 0 ++ put16 0) = some (.lift 0 0) ∧
    (tH.Delivers h (.crane 0) ∧ tH.runState = .halted) ∧
    (stopping.Delivers h (.crane 0) ∧ stopping.runState = .stopping) ∧
    (tR.Delivers other (.crane 0) ∧ (tR.station other.src.toNat).kind ≠ .source) ∧
    (unhomed.Delivers h (.crane 0) ∧ unhomed.craneValid 0 = false ∧ (unhomed.station h.src.toNat).kind = .source) ∧
    (busy.Delivers h (.crane 0) ∧ (busy.crane 0).slot ≠ .empty ∧ busy.craneValid 0 = true ∧
      busy.runState = .running ∧ (busy.station h.src.toNat).kind = .source) ∧
    operationOf 0x10#8 [1, 2, 3, 4, 5] = none ∧
    (moving.Delivers h (.crane 0) ∧ (moving.crane 0).moving = true ∧ moving.craneValid 0 = true) ∧
    (tLoaded.Delivers h (.crane 0) ∧ tLoaded.liftCheck 0 3 = some .loadPresent) ∧
    (tR.Delivers h (.crane 0) ∧ tR.lowerCheck 0 = some .noLoad) ∧
    (outside.Delivers h (.crane 0) ∧ outside.ownCheck 0 (.move 4500 2500) = none ∧
      outside.classify 0 (outside.requirement 0 (.move 4500 2500)) = .keepOut) ∧
    (claimed.Delivers h (.crane 0) ∧ claimed.classify 0 (claimed.requirement 0 (.move 4500 2500)) = .held ∧
      ∀ t : Fin 6, claimed.joins 0 (claimed.requirement 0 (.move 4500 2500)) t = false) := by
  intro h other stopping unhomed busy moving outside claimed
  (repeat' with_reducible apply And.intro) <;> decide +kernel

/-- Table 1 ACTIVE with an entry in flight and its permit over zone 28, in the way of crane 0's MOVE. -/
theorem witness_OtherCraneCommandsAreRefusedOrHeld_yield :
    let h := tHead 1#8 10#8
    let s := (tR.modZone 28 fun z => { z with use := .table 1, permit := some 1 }).modTable 1 fun x =>
      { x with state := .active, permit := true, released := 1, flights := [⟨.cut, 3, 0, 100, 0⟩] }
    let g := s.requirement 0 (.move 4500 2500)
    s.Delivers h (.crane 0) ∧ s.runState = .running ∧ (s.station h.src.toNat).kind = .source ∧ s.craneValid 0 = true ∧
    (s.crane 0).slot = .empty ∧ s.ownCheck 0 (.move 4500 2500) = none ∧ s.classify 0 g = .held ∧
    s.joins 0 g 1 = true ∧ (∀ u : Fin 6, u ≠ 1 → s.joins 0 g u = false) ∧ (s.table 1).yielders = [] ∧
    (s.table 1).state = .active ∧ (s.table 1).inFlight ≠ 0 ∧
    (after (exec (.move h (put24 4500 ++ put24 2500)) s)).map (fun t => ((t.table 1).state, (t.table 1).yielders)) =
      some (.yielding, [0]) := by
  intro h s g
  (repeat' with_reducible apply And.intro) <;> decide +kernel

theorem witness_ArrestReachesTheUnit :
    tR.Delivers (tHead 2#8 10#8) (.table 0) ∧ tR.Delivers (tHead 1#8 10#8) (.crane 0) ∧ (tR.crane 0).slot = .empty ∧
    tR.Delivers (tHead 3#8 10#8) (.marker 0) ∧
    (let s := (tHeld 0).modTable 1 fun x => { x with state := .yielding, permit := true, yielders := [0] }
     s.Delivers (tHead 1#8 10#8) (.crane 0) ∧ (s.withdraw 0).2 = [1] ∧
       (after (exec (.arrest (tHead 1#8 10#8) []) s)).map (fun t => ((t.table 1).state, (t.crane 0).slot)) =
         some (.active, .empty)) ∧
    (tHeld 0).Delivers (tHead 1#8 10#8) (.crane 0) ∧
    ((tHeld 0).crane 0).slot = .held (tRecord (.move 4000 4000)) tFrame ∧ (tHeld 0).runState ≠ .stopping ∧
    ∀ t : Fin 6, 0 ∉ ((tHeld 0).table t).yielders := by
  (repeat' with_reducible apply And.intro) <;> decide +kernel

/-- An ANSWER to a source on the side UPSTREAM, to one on the side FIELD, and to a number of kind NONE. -/
theorem witness_ArrestReachesTheUnit_answer :
    let s := (tR.modStation 10 fun x => { x with side := .upstream }).modStation 11 fun x =>
      { x with kind := .source, side := .field }
    let sent (src : Byte) := let t := s.answer 0x10 src 7#16 .f .refused (some .stopping); (t.sentU.length, t.sentF.length)
    (s.station 12).kind = .none ∧ sent 10 = (1, 0) ∧ sent 11 = (0, 1) ∧ sent 12 = (0, 1) ∧
    (State.reset.answer 0x10 10 7#16 .u .held none).sentU = [] := by
  intro s sent
  (repeat' with_reducible apply And.intro) <;> decide +kernel

theorem witness_SegEntriesJoinTheQueue :
    let h := tHead 2#8 10#8
    let payload := (tEntry .cut).payload
    tH.Delivers h (.table 0) ∧ readSeg h.src h.seq (payload.take 10) = none ∧
    (readSeg h.src h.seq payload).isSome = true ∧
    (tH.Delivers { h with src := 12#8 } (.table 0) ∧ (tH.station 12).kind ≠ .source) ∧
    ((tH.station h.src.toNat).kind = .source ∧ tH.runState = .halted ∧ (tH.table 0).queue.length < 24) ∧
    (let s := tH.modTable 0 fun x => { x with state := .queued, queue := List.replicate 24 (tEntry .cut) }
     s.Delivers h (.table 0) ∧ 24 ≤ (s.table 0).queue.length) := by
  intro h payload
  (repeat' with_reducible apply And.intro) <;> decide +kernel

/-- A running table 0 whose head is e, in a state, with plate 3 in cut or none, and piece 3 on the table. -/
def tHeaded (state : TableState) (e : Entry) (plate : Option Nat) : State :=
  { tR with stock := [{ tPiece with location := .onTable 0 }] }.modTable 0 fun x =>
    { x with state := state, queue := [e, tEntry .cut], plate := plate, ready := true,
             permit := decide (state ≠ TableState.queued), config := { x.config with marker := some 0, lowWater := 2 },
             lastSource := some (10#8, .u) }

/-- Heads of every kind: marked, waiting, failing each check, processed, requesting and released. -/
theorem witness_SegEntriesJoinTheQueue_head :
    let plate : Entry := { tEntry .plateBegin with piece := 3 }
    let fin : Entry := { tEntry .plateEnd with body := .rects [] }
    let mark : Entry := { tEntry .markLine with body := .line 0 10 2 false }
    let tagged := { tHeaded .queued plate none with stock := [{ tPiece with location := .onTable 0, tag := some 9 }] }
    let unmarked := (tHeaded .queued mark none).modTable 0 fun x => { x with config := {} }
    let unhomed := (tHeaded .queued mark none).modChannel 8 fun a => { a with homed := false }
    let barred := (((tHeaded .queued (tEntry .cut) (some 3)).modZone 5 fun z => { z with use := .table 0 }).modZone 5
      fun z => { z with claim := some 1 })
    let state (s : State) := ((s.headProcess 0).table 0).state
    (tHeaded .queued { tEntry .cut with marks := [.seqGap] } none).runState = .running ∧
    state (tHeaded .active { tEntry .cut with marks := [.seqGap] } none) = .headError ∧
    (tHeaded .yielding plate none).headProcess 0 = tHeaded .yielding plate none ∧
    state ({ tHeaded .queued plate none with stock := [] }) = .headError ∧
    state tagged = .headError ∧ state (tHeaded .queued plate (some 4)) = .headError ∧
    ((tHeaded .queued plate none).headProcess 0).stock.map (fun p => p.lifecycle) = [.inCut] ∧
    state (tHeaded .queued fin none) = .headError ∧
    ((tHeaded .active fin (some 3)).headProcess 0).stock = [] ∧
    state (tHeaded .queued (tEntry .cut) none) = .headError ∧ state unmarked = .headError ∧ state unhomed = .headError ∧
    state barred = .permitWait ∧ barred.permitGrantable 0 = false ∧
    ((tHeaded .queued (tEntry .cut) (some 3)).permitGrantable 0 = true ∧
      (((tHeaded .queued (tEntry .cut) (some 3)).headProcess 0).table 0).flights.length = 2) ∧
    ((tHeaded .active (tEntry .cut) (some 3)).releaseReady 0 (tEntry .cut) = true ∧
      ((tHeaded .active (tEntry .cut) (some 3)).headProcess 0).sentF.length = 3) ∧
    (mark.kind.isMark = true ∧ (tHeaded .active mark none).markerValid 0 = true) ∧
    (tR.Delivers (tHead 2#8 12#8) (.table 0) ∧ tR.runState = .running ∧ (tR.table 0).state = .idle) := by
  intro plate fin mark tagged unmarked unhomed barred state
  (repeat' with_reducible apply And.intro) <;> decide +kernel

/-- PLATE_END with scrap, a remnant and a skipped rectangle; marks handed to marker 0. -/
theorem witness_SegEntriesJoinTheQueue_ends :
    let s := tHeaded .active (tEntry .cut) (some 3)
    let rects : List Rect := [⟨5, 50, 500⟩, ⟨6, 600, 500⟩, ⟨0, 600, 500⟩]
    let line : Entry := { tEntry .markLine with body := .line 0 10 2 false }
    let text : Entry := { tEntry .markText with body := .text 0 [65], piece := 3 }
    (s.piece 3).isSome = true ∧ s.piece 4 = none ∧
    ((s.consumePlate 0 3 rects).stock.map fun p => (p.id, p.parent)) = [(6, some 3)] ∧
    ((s.consumePlate 0 3 rects).notice .flow).detail = some ⟨6, 0x10, 0⟩ ∧
    ((tR.handMark 0 line).marker 0).line.map (fun l => (l.total, l.issued)) = some (2, 2) ∧
    ((tR.handMark 0 text).marker 0).text = some ⟨4, 3, 0⟩ := by
  intro s rects line text
  (repeat' with_reducible apply And.intro) <;> decide +kernel

theorem witness_CraneSamplesAreTaken :
    let s := tH.modCrane 0 fun k => { k with latchPrimed := true }
    s.Samples (tHead 61#8 1#8) (.crane 0) ∧ s.runState = .halted ∧ (s.crane 0).slot = .empty ∧
    (s.crane 0).latchPrimed = true ∧ (s.crane 0).latchResume = false ∧ (s.crane 0).latch.level = (1#8).getLsbD 1 := by
  intro s
  (repeat' with_reducible apply And.intro) <;> decide +kernel

/-- Crane 0 in flight as a sample finds it: a MOVE that has moved and stands at and off its target, a LIFT, a LOWER, and
loads that come and go unasked. -/
theorem witness_CraneSamplesAreTaken_ends :
    let s0 := ({ tStocked .running with cycle := 9#32 } : State).modCrane 0 fun k =>
      { k with latchPrimed := true, still := 2, moving := true }
    let op (o : Operation) (moved : Bool) : OpRecord := { tRecord o with moved := moved }
    let flying (o : Operation) := s0.modCrane 0 fun k => { k with slot := .inFlight (op o true), still := 3, moving := false }
    let lifted := ({ s0 with stock := [{ tPiece with location := .onCrane 0 }] } : State).modCrane 0 fun k =>
      { k with load := .piece 3, latch := .set true }
    let sample (x : Byte) (s : State) := after (exec (.craneSample (tHead 61#8 1#8) 0 0 x) s)
    let h := tHead 61#8 1#8
    (s0.Samples h (.crane 0) ∧ s0.craneValid 0 = true ∧ s0.runState ≠ .halted) ∧
    (((flying (.move 2525 2475)).checkArrival 0).crane 0).last = some ⟨.complete, 0, 9⟩ ∧
    (((flying (.move 2526 2475)).checkArrival 0).crane 0).last = some ⟨.stoppedShort, 0, 9⟩ ∧
    (((flying (.lift 3 0)).latchRise 0).crane 0).load = .piece 3 ∧
    (((flying (.lift 0 7)).latchRise 0).crane 0).load = .untracked 7 ∧
    (((flying (.lift 4 7)).latchRise 0).crane 0).load = .untracked 7 ∧
    ((s0.latchRise 0).notice .fault).detail = some ⟨8, 0, 0⟩ ∧
    lifted.lowerPlace 0 = .zone 18 ∧
    ((lifted.latchFall 0).notice .fault).detail = some ⟨9, 0, 3⟩ ∧
    (((lifted.modCrane 0 fun k => { k with slot := .inFlight (op .lower false) }).latchFall 0).stock.map fun p =>
      p.location) = [.zone 18] ∧
    (sample 0 s0).map (fun t => ((t.crane 0).moving, (t.claimedBy 0))) = some (false, [18, 19, 26, 27]) ∧
    ((tHeld 0).recomputeStep 0).2 = [.eval] ∧ (tH.recomputeStep 0).2 = [] := by
  intro s0 op flying lifted sample h
  (repeat' with_reducible apply And.intro) <;> decide +kernel

/-- Table 0 with its arc monitor primed and two entries in flight, of which done count 6 reports all and 4 none. -/
def tCutting : State :=
  (tH.modTable 0 fun x =>
    { x with lastDone := some 4, released := 2, flights := [⟨.cut, 3, 0, 100, 0⟩, ⟨.cut, 4, 0, 100, 0⟩] }).modArc 0
    fun a => { a with primed := true }

theorem witness_TableAndMarkerSamplesAreTaken :
    let h := tHead 61#8 2#8
    (tCutting.Samples h (.table 0) ∧ tCutting.runState = .halted ∧ (tCutting.table 0).state ≠ .fault ∧
      (tCutting.arc 0).primed = true ∧ (tCutting.arc 0).arc.level = false ∧ (2#8).getLsbD 0 = false ∧
      (tCutting.arc 0).watch = none ∧ (tCutting.table 0).lastDone = some 4#8) ∧
    ((tCutting.table 0).target = .controller ∧ 6#8 - 4#8 ≠ 0 ∧ (6#8 - 4#8).toNat = (tCutting.table 0).inFlight ∧
      (tCutting.table 0).flights.length ≤ (6#8 - 4#8).toNat) ∧
    (tH.table 0).lastDone = none ∧
    (tH.Samples (tHead 61#8 3#8) (.marker 0) ∧ (tH.marker 0).line = none ∧ (tH.marker 0).text = none ∧
      (16#8).toNat ≤ 16 ∧ 16 < (17#8).toNat) := by
  intro h
  (repeat' with_reducible apply And.intro) <;> decide +kernel

/-- Samples at work: a partial advance, a resync, a rise and a fall, an arc without the permit; a line at its done, at a
refit and at a clip, one that is fed, and a text struck. -/
theorem witness_TableAndMarkerSamplesAreTaken_work :
    let burning := tCutting.modArc 0 fun a => { a with arc := { level := true, run := 1 } }
    let line (l : Line) : State := { tR with report := none }.modMarker 0 fun k =>
      { k with line := some l, struck := some 3, edge := some false, lookAhead := 300 }
    let fed : Line := { tLine with issued := 7 }
    let texted := tR.modMarker 0 fun k => { k with text := some ⟨4, 0, 2⟩ }
    let named := (tR.modTable 0 fun x =>
      { x with config := { x.config with marker := some 0 }, released := 1, target := .marker,
               flights := [⟨.markText, 4, 0, 0, 0⟩] })
    (tCutting.Samples (tHead 61#8 2#8) (.table 0) ∧ (tCutting.table 0).lastDone = some 4#8) ∧
    ((tCutting.takeDone 0 5).table 0).flights = [⟨.cut, 4, 0, 100, 0⟩] ∧
    ((tCutting.takeDone 0 9).notice .flow).detail = some ⟨4, 0x10, 5⟩ ∧
    ((tCutting.modArc 0 fun a => { a with arc := { level := false, run := 1 } }).takeArcLevel 0 true).arcs[0].wearPierces
      = 1 ∧
    ((burning.takeArcLevel 0 false).arc 0).arc = { level := false, run := 0 } ∧
    ((burning.checkUnpermitted 0).table 0).state = .fault ∧ ((burning.checkUnpermitted 0).arc 0).episode = true ∧
    ((line fed).takeStruck 0 7).2 = true ∧ ((line fed).takeStruck 0 6).2 = false ∧ (texted.takeStruck 0 3).2 = true ∧
    (((line { fed with refit := true }).takeEdgeLevel 0 true).1.marker 0).line.map (fun l => (l.spanDots, l.issued)) =
      some (4, 7) ∧
    (((line fed).takeEdgeLevel 0 true).1.marker 0).line.map (fun l => l.total) = some 4 ∧
    (((line { fed with start := 3000 }).takeEdgeLevel 0 true).2 = true) ∧
    ((line tLine).feedOne 0).sentF.length = 1 ∧ (line fed).feedOne 0 = line fed ∧
    (named.boundTable 0 = some 0 ∧ ((named.reportDone 0 true).1.table 0).flights = []) ∧ tR.boundTable 1 = none ∧
    (texted.Samples (tHead 61#8 3#8) (.marker 0) ∧ (16#8).toNat ≤ 16) := by
  intro burning line fed texted named
  (repeat' with_reducible apply And.intro) <;> decide +kernel

/-- A piece marked, one that awaited its mark, one marked already; the seven dots of a line. -/
theorem witness_TableAndMarkerSamplesAreTaken_marks :
    let stocked (life : Lifecycle) (marked : Bool) : State :=
      { tR with stock := [{ tPiece with lifecycle := life, marked := marked }] }
    let marks (s : State) := (s.markPiece 3).stock.map fun p => (p.lifecycle, p.marked, p.revision)
    tR.piece 3 = none ∧ marks (stocked .awaitingMark false) = [(.available, true, 5)] ∧
    marks (stocked .inCut false) = [(.inCut, true, 5)] ∧ marks (stocked .available true) = [(.available, true, 4)] ∧
    (1 ≤ tLine.spanDots ∧ tLine.spanDots ≤ tLine.spanLength ∧ tLine.produced + 7 ≤ tLine.spanDots ∧
      tLine.accumulator = accumulatorAfter tLine.spanLength tLine.spanDots tLine.produced) ∧
    (tLine.takeDots 7).1 = [(1, 2185), (2, 2371), (3, 2557), (4, 2742), (5, 2928), (6, 3114), (7, 3300)] := by
  intro stocked marks
  (repeat' with_reducible apply And.intro) <;> decide +kernel

theorem witness_CycleBoundaryAdvances :
    (tH.powered = true ∧ tH.Settled ∧ tH.started = false) ∧
    (tR.powered = true ∧ tR.Settled ∧ tR.started = true ∧ tR.Quiet ∧ ∀ n < 64, (tR.station n).polled = false) ∧
    (let s := tR.modStation 1 fun x => { x with polled := true, misses := 6 }
     s.Settled ∧ s.started = true ∧ s.Quiet ∧ min 15 ((s.station 1).misses + 1) < (s.station 1).missLimit ∧
       (after (exec .cycleBoundary s)).map (fun t => ((t.station 1).misses, (t.station 1).polled)) = some (7, false)) := by
  (repeat' with_reducible apply And.intro) <;> decide +kernel

/-- Stations 1 to 4 and 10 polled, one miss short of a limit of 2: 1 to 3 and 10 FRESH, 4 NEVER, and 5 silent. -/
def tMissing : State :=
  [1, 2, 3, 4, 5, 10].foldl (fun s n => s.modStation n fun x =>
    { x with polled := true, misses := 1, missLimit := 2, silent := decide (n = 5),
             freshness := if n = 4 ∨ n = 5 then .never else .fresh }) tR

theorem witness_MissLimitsMakeStale :
    tMissing.powered = true ∧ tMissing.Settled ∧ 63 < 64 ∧
    (∀ n ∈ [1, 2, 3, 4, 5, 10], (tMissing.station n).polled = true ∧
      (tMissing.station n).missLimit ≤ min 15 ((tMissing.station n).misses + 1)) ∧
    [1, 2, 3, 10].map (fun n => (tMissing.station n).freshness) = List.replicate 4 .fresh ∧
    [1, 2, 3].map (fun n => (tMissing.station n).kind) = [.crane 0, .table 0, .marker 0] ∧
    (tMissing.station 10).kind.isBound = false ∧ (tMissing.marker 0).line = none ∧
    [4, 5].map (fun n => ((tMissing.station n).freshness, (tMissing.station n).silent)) =
      [(.never, false), (.never, true)] ∧
    (tMissing.station 63).polled = false := by
  (repeat' with_reducible apply And.intro) <;> decide +kernel

/-- A marker with a line, lost at its limit, and its bound table. -/
theorem witness_MissLimitsMakeStale_line :
    let s := (tMissing.modMarker 0 fun k => { k with line := some tLine }).modTable 0 fun x =>
      { x with config := { x.config with marker := some 0 } }
    s.powered = true ∧ s.Settled ∧ (s.station 3).polled = true ∧ (s.station 3).freshness = .fresh ∧
    (s.station 3).missLimit ≤ min 15 ((s.station 3).misses + 1) ∧ (s.marker 0).line = some tLine ∧
    s.boundTable 0 = some 0 ∧ (s.table 0).state ≠ .fault ∧ s.stationOf (.table 0) = some 2 ∧
    s.stationOf (.table 1) = none ∧
    (after (exec (.stationStale 3) s)).map (fun t => ((t.table 0).state, (t.marker 0).line)) = some (.fault, none) := by
  intro s
  (repeat' with_reducible apply And.intro) <;> decide +kernel

/-- Crane 0 with an operation in flight since cycle 0, in cycle n. -/
def tFlying (op : Operation) (n : CycleNo) : State :=
  { tR with cycle := n }.modCrane 0 fun k => { k with slot := .inFlight (tRecord op) }

/-- Each limit just reached. -/
theorem witness_CraneLimitsEndOperations :
    (let s := tFlying (.move 4000 2500) 2000#32
     s.powered = true ∧ s.Settled ∧ (s.crane 0).slot = .inFlight (tRecord (.move 4000 2500)) ∧ s.runState ≠ .stopping) ∧
    (let s := tFlying .lower 20000#32
     s.powered = true ∧ s.Settled ∧ (s.crane 0).slot = .inFlight (tRecord .lower) ∧ s.runState ≠ .stopping) ∧
    (let s := tHeld 3000#32
     s.powered = true ∧ s.Settled ∧ (s.crane 0).slot = .held (tRecord (.move 4000 4000)) tFrame ∧
       s.runState ≠ .stopping ∧ ∀ t : Fin 6, 0 ∉ (s.table t).yielders) ∧
    (tR.crane 0).slot = .empty := by
  (repeat' with_reducible apply And.intro) <;> decide +kernel

/-- The same ends in STOPPING, and one cycle short of each limit. -/
theorem witness_CraneLimitsEndOperations_stopping :
    let stopping (op : Operation) (n : CycleNo) := { tFlying op n with runState := .stopping }
    ((stopping (.move 4000 2500) 2000#32).Settled ∧ (stopping (.move 4000 2500) 2000#32).powered = true ∧
      (after (exec (.notStarted 0) (stopping (.move 4000 2500) 2000#32))).map (fun t => t.runState) = some .halted) ∧
    ((stopping .lower 20000#32).Settled ∧ (stopping .lower 20000#32).powered = true) ∧
    (1999#32 - (tRecord .lower).entry).toNat < 2000 ∧ (19999#32 - (tRecord .lower).entry).toNat < 20000 ∧
    (2999#32 - (tRecord .lower).entry).toNat < 3000 ∧ ((tHeld 2999#32).powered = true ∧ (tHeld 2999#32).Settled) := by
  intro stopping
  (repeat' with_reducible apply And.intro) <;> decide +kernel

/-- Table 0 ACTIVE with an entry in its queue whose stall timer has reached its limit, in cycle 1000. -/
def tStalled : State :=
  { tR with cycle := 1000 }.modTable 0 fun x =>
    { x with state := .active, permit := true, queue := [tEntry .cut], stall := 500 }

/-- The same table with its queue empty and its linger at the linger value. -/
def tLingering : State :=
  tR.modTable 0 fun x => { x with state := .active, permit := true, linger := 200 }

/-- The same table with the arc ON from cycle 899 over a cutting record of 100 cycles, and an ignite watch of cycle 600. -/
def tBurning : State :=
  (tStalled.modTable 0 fun x => { x with released := 1, flights := [⟨.cut, 3, 0, 100, 0⟩] }).modArc 0 fun a =>
    { a with primed := true, arc := .set true, base := 899, watch := some (3#16, 600#32) }

theorem witness_TableTimersAndArcChecksAct :
    (tStalled.powered = true ∧ tStalled.Settled ∧ tStalled.runState = .running ∧ (tStalled.table 0).state = .active ∧
      (tStalled.table 0).queue ≠ [] ∧ (tStalled.table 0).config.stallLimit ≤ (tStalled.table 0).stall ∧
      (tStalled.table 0).stallSent = false) ∧
    (tLingering.powered = true ∧ tLingering.Settled ∧ tLingering.lingerDue 0 = true ∧ tLingering.hold = []) ∧
    tStalled.lingerDue 0 = false ∧ tStalled.arcOverrunDue 0 = false ∧ tStalled.arcNoStartDue 0 = false ∧
    (tBurning.powered = true ∧ tBurning.Settled ∧ tBurning.isFresh (.table 0) = true ∧
      (tBurning.table 0).flights = [⟨.cut, 3, 0, 100, 0⟩] ∧ EntryKind.cut.isCutting = true ∧
      (tBurning.arc 0).arc.level = true ∧ 100 < (tBurning.cycle - (tBurning.arc 0).base).toNat ∧
      (tBurning.table 0).state ≠ .fault) ∧
    ((tBurning.arc 0).watch = some (3#16, 600#32) ∧
      (tBurning.table 0).config.ignite ≤ (tBurning.cycle - 600#32).toNat) ∧
    (let s := tBurning.modArc 0 fun a => { a with arc := {} }
     s.powered = true ∧ s.Settled ∧ s.isFresh (.table 0) = true ∧ (s.arc 0).watch = some (3#16, 600#32) ∧
       (s.arc 0).arc.level = false ∧ (s.table 0).permit = true ∧
       (after (exec (.arcNoStart 0) s)).map (fun t => ((t.table 0).state, (t.table 0).permit)) = some (.fault, false)) ∧
    (let s := { tLingering with hold := (tHeld 0).hold, cranes := (tHeld 0).cranes }
     s.powered = true ∧ s.Settled ∧ s.lingerDue 0 = true ∧ s.hold ≠ [] ∧
       (after (exec (.lingerExpiry 0) s)).map (fun t => t.hold) = some []) := by
  (repeat' with_reducible apply And.intro) <;> decide +kernel

/-- Misses at their limit, a hold limit reached, and each timer counting. -/
theorem witness_CycleBoundaryAdvances_timers :
    let stalled := tStalled.modTable 0 fun x => { x with stall := 499 }
    let worn := tBurning.modTable 0 fun x => { x with config := { x.config with arcLimit := 1 } }
    (tMissing.missDue 1 = true ∧ (tMissing.station 1).missLimit ≤ min 15 ((tMissing.station 1).misses + 1)) ∧
    ((stalled.stallBoundary 0).notice .flow).detail = some ⟨3, 0x10, 1⟩ ∧ tR.stallCounts 0 = false ∧
    ((tLingering.lingerBoundary 0).table 0).linger = 201 ∧ tStalled.lingerCounts 0 = false ∧
    ((worn.wearBoundary 0).notice .wear).detail = some ⟨2, 0x10, 1⟩ ∧ (tR.arc 0).arc.level = false ∧
    ((State.expireHold (tHeld 3000#32).hold (tHeld 3000#32)).1.crane 0).slot = .empty ∧
    (State.expireHold (tHeld 2999#32).hold (tHeld 2999#32)).1 = tHeld 2999#32 := by
  intro stalled worn
  (repeat' with_reducible apply And.intro) <;> decide +kernel

/-- R105, R106: a set joined again keeps a table YIELDING, and one emptied again leaves it ACTIVE. -/
theorem test_stale_set_changes :
    let table (state : TableState) (set : List (Fin 4)) := tR.modTable 0 fun x =>
      { x with state := state, permit := true, yielders := set }
    (((table .yielding [1]).emptied 0).1.table 0).state = .yielding ∧
    (((table .active []).filled 0).1.table 0).state = .active := by decide +kernel

/-- R73: a SEG refused as from no SOURCE still has the head of an ACTIVE table released. -/
theorem test_refused_seg_runs_head :
    (after (exec (.seg (tHead 2#8 12#8) (tEntry .cut).payload) (tHeaded .active (tEntry .cut) (some 3)))).map
      (fun t => (t.table 0).flights.length) = some 2 := by decide +kernel

/-- R67, R191: the mark policy's code is 0 for yes, 1 for no, and no other. -/
theorem test_mark_policy_codes :
    [0, 1, 2].map (fun n => (tableConfigOf { tArgs with markPolicy := n }).map TableConfig.markFirst) =
      [some true, some false, none] := by decide

theorem witness_LinksRiseAndFall :
    (State.reset.powered = true ∧ State.reset.Settled ∧ State.reset.linkU = false ∧ State.reset.linkF = false) ∧
    (tR.powered = true ∧ tR.Settled ∧ tR.linkU = true ∧ tR.linkF = true ∧ tR.runState = .running) ∧
    (let s := { tH with stations := State.reset.stations }
     s.powered = true ∧ s.Settled ∧ s.linkF = true ∧ s.runState = .halted ∧
       ∀ n < 64, (s.station n).side = .field → (s.station n).freshness ≠ .fresh) ∧
    (tH.powered = true ∧ tH.Settled ∧ tH.linkF = true ∧ tH.runState = .halted ∧ (tH.station 1).freshness = .fresh) ∧
    (let s := tFlying .lower 9
     let u := { s with runState := .stopping }
     u.powered = true ∧ u.Settled ∧ u.linkF = true ∧ u.runState = .stopping) := by
  (repeat' with_reducible apply And.intro) <;> decide +kernel

end Sys2Proof.Machine
end

/-! SUPPORT. Proofs on arc monitoring and consumable wear (chapter 6): what a unit number reads as, an arc monitor written
with its arc state kept, and TABLE.WEAR_RESET. -/

namespace Sys2Proof.Machine

/-! ## Unit numbers as indices -/

theorem asFin_val {bound : Nat} (i : Fin bound) : asFin bound i.val = some i := dif_pos i.isLt

theorem asFin_of_le {bound n : Nat} (h : bound ≤ n) : asFin bound n = none := dif_neg (Nat.not_lt.mpr h)

/-! ## An arc monitor written with its arc state kept -/

theorem State.modArc_arc_level (s : State) (t : Fin 6) (f : Arc → Arc)
    (kept : (f (s.arc t)).arc.level = (s.arc t).arc.level) (x : Fin 6) :
    ((s.modArc t f).arc x).arc.level = (s.arc x).arc.level := by
  by_cases hx : t = x
  · subst hx
    rw [s.modArc_same t f, kept]
  · rw [s.modArc_other t x f hx]

/-- Of an arc monitor the end of an event reads the arc state alone, for the linger timer (R83). -/
theorem State.modArc_settled (s : State) (t : Fin 6) (f : Arc → Arc) (settled : s.Settled)
    (kept : (f (s.arc t)).arc.level = (s.arc t).arc.level) : (s.modArc t f).Settled := by
  have linger (x : Fin 6) : (s.modArc t f).lingerCounts x = s.lingerCounts x := by
    rw [State.lingerCounts, s.modArc_arc_level t f kept x]
    rfl
  exact s.settled_of_alike _ settled rfl rfl rfl (fun _ => rfl) fun x => ⟨rfl, rfl, rfl, linger x⟩

/-! ## TABLE.WEAR_RESET (R121) -/

theorem exec_tableWearReset (r : Req) (table : Nat) (s : State) :
    exec (.tableWearReset r table) s = s.request r 0x0407#16 (handleTableWearReset table) := rfl

theorem handleTableWearReset_of_le {n : Nat} (h : 6 ≤ n) (s : State) :
    handleTableWearReset n s = s.refuse .notFound := by
  simp only [handleTableWearReset, asFin_of_le h]

theorem handleTableWearReset_val (t : Fin 6) (s : State) :
    handleTableWearReset t.val s =
      ((s.modArc t fun a =>
        { a with wearPierces := 0, wearArc := 0, piercesReported := false, arcReported := false }),
        done (putNat32 (s.arc t).wearPierces ++ putNat32 (s.arc t).wearArc)) := by
  simp only [handleTableWearReset, asFin_val]

/-- Settles O34: the wear counts and their flags are nothing that the end of the event or the status tag reads. -/
theorem wearResetReturnsAndZeroes : Obligations.WearResetReturnsAndZeroes := by
  constructor
  · intro r n s takes absent
    have ⟨_, settled, _⟩ := takes
    rw [exec_tableWearReset]
    exact s.request_eq s r _ _ _ takes (handleTableWearReset_of_le absent s) settled rfl rfl rfl
  · intro r t s takes
    have ⟨_, settled, _⟩ := takes
    rw [exec_tableWearReset]
    exact s.request_eq _ r _ _ _ takes (handleTableWearReset_val t s) (s.modArc_settled t _ settled rfl) rfl rfl rfl

end Sys2Proof.Machine

/-! SUPPORT. Proofs on dot distribution (chapter 7): the accumulator of a span at any count and after any number of
dots, the count at which it first goes negative, and the planned dots it lays, all at once and one after another. -/

namespace Sys2Proof.Machine

/-! ## The accumulator at any count (R129) -/

/-- The accumulator of a span of n dots over l counts at count j, k dots having been produced (R129). -/
def accumulatorAt (l n k j : Nat) : Int := (l : Int) - n + k * l - n * j

theorem accumulatorAfter_eq_at (l n k : Nat) : accumulatorAfter l n k = accumulatorAt l n k (k * l / n) := rfl

theorem accumulatorAt_start (l n : Nat) : accumulatorAt l n 0 0 = (l : Int) - n := by
  simp only [accumulatorAt, Int.cast_ofNat_Int, Int.zero_mul, Int.mul_zero, Int.add_zero, Int.sub_zero]

theorem accumulatorAt_sub (l n k j : Nat) : accumulatorAt l n k j - n = accumulatorAt l n k (j + 1) := by
  simp only [accumulatorAt, Int.natCast_add, Int.cast_ofNat_Int, Int.mul_add, Int.mul_one]
  omega

theorem accumulatorAt_add (l n k j : Nat) : accumulatorAt l n k j + l = accumulatorAt l n (k + 1) j := by
  simp only [accumulatorAt, Int.natCast_add, Int.cast_ofNat_Int, Int.add_mul, Int.one_mul]
  omega

/-- While the accumulator is not negative, the next planned dot lies beyond the count reached. -/
theorem accumulatorAt_nonneg_iff (l n k j : Nat) : 0 ≤ accumulatorAt l n k j ↔ n * (j + 1) ≤ (k + 1) * l := by
  have rearranged : accumulatorAt l n k j = (((k + 1) * l : Nat) : Int) - ((n * (j + 1) : Nat) : Int) := by
    simp only [accumulatorAt, Int.natCast_add, Int.natCast_mul, Int.cast_ofNat_Int, Int.mul_add, Int.mul_one,
      Int.add_mul, Int.one_mul]
    omega
  rw [rearranged, Int.sub_nonneg, Int.ofNat_le]

theorem lt_of_accumulatorAt_neg {l n k j : Nat} (negative : accumulatorAt l n k j < 0) :
    (k + 1) * l < n * (j + 1) :=
  Nat.not_le.mp fun beyond => Int.not_lt.mpr ((accumulatorAt_nonneg_iff l n k j).mpr beyond) negative

/-- The count at which the accumulator first goes negative is that of the next planned dot. -/
theorem spanDot_of_first_negative (b : Int) {l n k j : Nat} (before : 0 ≤ accumulatorAt l n k j)
    (here : accumulatorAt l n k (j + 1) < 0) : spanDot b l n (k + 1) = b + (j + 1 : Nat) := by
  have reached := (accumulatorAt_nonneg_iff l n k j).mp before
  have passed := lt_of_accumulatorAt_neg here
  rw [Nat.mul_comm n] at reached passed
  have floor : (k + 1) * l / n = j + 1 := Nat.div_eq_of_lt_le reached passed
  rw [spanDot, floor]

/-- Within the span the accumulator goes negative only while fewer than n dots have been produced. -/
theorem dots_lt_of_accumulatorAt_neg {l n k j : Nat} (fits : n ≤ l) (inside : j < l)
    (negative : accumulatorAt l n k (j + 1) < 0) : k < n := by
  have bound : (k + 1) * l < (n + 1) * l :=
    calc (k + 1) * l
      _ < n * (j + 1 + 1) := lt_of_accumulatorAt_neg negative
      _ ≤ n * (l + 1) := Nat.mul_le_mul_left n (Nat.succ_le_succ inside)
      _ = n * l + n := Nat.mul_succ n l
      _ ≤ n * l + l := Nat.add_le_add_left fits (n * l)
      _ = (n + 1) * l := (Nat.succ_mul n l).symm
  exact Nat.lt_of_succ_lt_succ (Nat.lt_of_mul_lt_mul_right bound)

/-- At the last count an accumulator that is not negative has laid all n dots. -/
theorem dots_le_of_accumulatorAt_end {l n k : Nat} (one : 1 ≤ n) (notNegative : 0 ≤ accumulatorAt l n k l) :
    n ≤ k := by
  have bound : n * l < (k + 1) * l :=
    calc n * l
      _ < n * l + n := Nat.lt_add_of_pos_right one
      _ = n * (l + 1) := (Nat.mul_succ n l).symm
      _ ≤ (k + 1) * l := (accumulatorAt_nonneg_iff l n k l).mp notNegative
  exact Nat.le_of_lt_succ (Nat.lt_of_mul_lt_mul_right bound)

/-! ## The dots of a span, all at once -/

/-- From count j, with k dots laid and the accumulator not negative, the counts left of the span lay the dots that are
left, the (k + 1)-th to the n-th. -/
theorem accumulate_accumulatorAt (b : Int) {l n : Nat} (one : 1 ≤ n) (fits : n ≤ l) (counts : Nat) :
    ∀ {j k : Nat}, j + counts = l → 0 ≤ accumulatorAt l n k j →
      accumulate b l n counts j (accumulatorAt l n k j) =
        (List.range' k (n - k)).map fun i => spanDot b l n (i + 1) := by
  induction counts with
  | zero =>
    intro j k ends notNegative
    obtain rfl : j = l := ends
    have all := dots_le_of_accumulatorAt_end one notNegative
    rw [Nat.sub_eq_zero_of_le all]
    rfl
  | succ counts ih =>
    intro j k ends notNegative
    rw [accumulate, accumulatorAt_sub]
    split
    case isTrue negative =>
      have left : n - k = n - (k + 1) + 1 := by
        have := dots_lt_of_accumulatorAt_neg fits (by omega) negative
        omega
      have risen : 0 ≤ accumulatorAt l n (k + 1) (j + 1) := by
        rw [← accumulatorAt_add, ← accumulatorAt_sub]
        omega
      rw [accumulatorAt_add, ih (by omega) risen, left, List.range'_succ, List.map_cons,
        spanDot_of_first_negative b notNegative negative]
    case isFalse stays => exact ih (by omega) (Int.not_lt.mp stays)

theorem spanDots_eq_map_spanDot (b : Int) {l n : Nat} (one : 1 ≤ n) (fits : n ≤ l) :
    spanDots b l n = (List.range n).map fun k => spanDot b l n (k + 1) := by
  have start : 0 ≤ accumulatorAt l n 0 0 := by
    rw [accumulatorAt_start]
    omega
  rw [spanDots, ← accumulatorAt_start, accumulate_accumulatorAt b one fits l (Nat.zero_add l) start,
    List.range_eq_range', Nat.sub_zero]

/-! ## The dots of a span, one after another -/

/-- The gap after k dots leads from the floor of the k-th dot to that of the next. -/
theorem dotGap_accumulatorAfter {l n : Nat} (one : 1 ≤ n) (k : Nat) :
    dotGap (accumulatorAfter l n k) n = (((k + 1) * l / n : Nat) : Int) - ((k * l / n : Nat) : Int) := by
  have nonzero : (n : Int) ≠ 0 := by omega
  have next : accumulatorAfter l n k =
      (((k + 1) * l : Nat) : Int) + n * (-1 - ((k * l / n : Nat) : Int)) := by
    simp only [accumulatorAfter, Int.natCast_mul, Int.natCast_add, Int.cast_ofNat_Int, Int.add_mul, Int.one_mul,
      Int.mul_sub, Int.mul_neg, Int.mul_one]
    omega
  rw [dotGap, next, Int.add_mul_ediv_left _ _ nonzero, ← Int.natCast_ediv]
  omega

/-- The accumulator, lowered over the counts between two dots and raised at the second, stands as after that dot. -/
theorem accumulatorAfter_succ (l n k : Nat) :
    accumulatorAfter l n k - n * ((((k + 1) * l / n : Nat) : Int) - ((k * l / n : Nat) : Int)) + l =
      accumulatorAfter l n (k + 1) := by
  simp only [accumulatorAfter, Int.natCast_add, Int.cast_ofNat_Int, Int.add_mul, Int.one_mul, Int.mul_sub]
  omega

theorem Line.nextDot_of_accumulatorAfter (l : Line) (one : 1 ≤ l.spanDots)
    (stands : l.accumulator = accumulatorAfter l.spanLength l.spanDots l.produced) :
    l.nextDot =
      (spanDot l.spanBase l.spanLength l.spanDots (l.produced + 1),
       { l with accumulator := accumulatorAfter l.spanLength l.spanDots (l.produced + 1), produced := l.produced + 1,
                nextIndex := l.nextIndex + 1 }) := by
  have position : spanDot l.spanBase l.spanLength l.spanDots l.produced +
      ((((l.produced + 1) * l.spanLength / l.spanDots : Nat) : Int) -
        ((l.produced * l.spanLength / l.spanDots : Nat) : Int)) =
      spanDot l.spanBase l.spanLength l.spanDots (l.produced + 1) := by
    simp only [spanDot]
    omega
  simp only [Line.nextDot, stands, dotGap_accumulatorAfter one, position, accumulatorAfter_succ]

/-- Settles O10: all at once by induction on the counts left, one after another by the gap between two floors. -/
theorem plannedDotsByAccumulator : Obligations.PlannedDotsByAccumulator :=
  ⟨fun b _ _ one fits => spanDots_eq_map_spanDot b one fits,
   fun l one _ _ stands => l.nextDot_of_accumulatorAfter one stands⟩

end Sys2Proof.Machine

/-! SUPPORT. Proofs on piece and remnant stock (chapter 8): what a stock operation leaves of the controller, a record
after a change of it, and the requests that read, list, reserve, place and amend records. -/

namespace Sys2Proof.Machine

/-! ## What a stock operation leaves (R6, R144, R145) -/

/-- Two states differ in nothing but the records, the zones, the stock frame counter and what the ports have sent. -/
def State.StockChanges (s u : State) : Prop :=
  ∃ stock zones counter sentU sentF,
    u = { s with stock := stock, zones := zones, stockCounter := counter, sentU := sentU, sentF := sentF }

theorem State.StockChanges.refl (s : State) : s.StockChanges s := ⟨_, _, _, _, _, rfl⟩

theorem State.StockChanges.trans {s t u : State} (first : s.StockChanges t) (second : t.StockChanges u) :
    s.StockChanges u := by
  obtain ⟨_, _, _, _, _, rfl⟩ := first
  obtain ⟨stock, zones, counter, sentU, sentF, rfl⟩ := second
  exact ⟨stock, zones, counter, sentU, sentF, rfl⟩

theorem State.StockChanges.settled {s u : State} (h : s.StockChanges u) (settled : s.Settled) : u.Settled := by
  obtain ⟨_, _, _, _, _, rfl⟩ := h
  exact s.settled_of_same _ settled rfl rfl rfl rfl rfl rfl

theorem State.writePiece_stockChanges (s : State) (id : Nat) (p : Piece) : s.StockChanges (s.writePiece id p) :=
  ⟨_, _, _, _, _, rfl⟩

theorem State.modZone_stockChanges (s : State) (z : Nat) (f : Zone → Zone) : s.StockChanges (s.modZone z f) := by
  unfold State.modZone
  split
  · exact ⟨_, _, _, _, _, rfl⟩
  · exact .refl s

theorem State.leavePlace_stockChanges (s : State) (place : Location) : s.StockChanges (s.leavePlace place) := by
  cases place with
  | zone z => exact s.modZone_stockChanges z _
  | onCrane | onTable | unverified => exact .refl s

theorem State.enterPlace_stockChanges (s : State) (place : Location) : s.StockChanges (s.enterPlace place) := by
  cases place with
  | zone z => exact s.modZone_stockChanges z _
  | onCrane | onTable | unverified => exact .refl s

theorem State.movePlace_stockChanges (s : State) (before after : Location) :
    s.StockChanges (s.movePlace before after) := by
  unfold State.movePlace
  split
  · exact .refl s
  · exact (s.leavePlace_stockChanges before).trans (State.enterPlace_stockChanges _ after)

theorem State.stockFrame_stockChanges (s : State) (cause : StockCause) (scrap : Nat) (p : Piece) :
    s.StockChanges (s.stockFrame cause scrap p) := by
  unfold State.stockFrame
  split
  · exact ⟨_, _, _, _, _, rfl⟩
  · rw [State.transmit_eq]
    exact ⟨_, _, _, _, _, rfl⟩

theorem State.changePiece_stockChanges (s : State) (id : Nat) (cause : StockCause) (f : Piece → Piece) :
    s.StockChanges (s.changePiece id cause f) := by
  unfold State.changePiece
  split
  · exact .refl s
  · exact ((s.writePiece_stockChanges id _).trans (State.movePlace_stockChanges _ _ _)).trans
      (State.stockFrame_stockChanges _ cause 0 _)

/-! ## The stock itself -/

theorem State.leavePlace_stock (s : State) (place : Location) : (s.leavePlace place).stock = s.stock := by
  cases place with
  | zone z => exact s.modZone_stock z _
  | onCrane | onTable | unverified => rfl

theorem State.enterPlace_stock (s : State) (place : Location) : (s.enterPlace place).stock = s.stock := by
  cases place with
  | zone z => exact s.modZone_stock z _
  | onCrane | onTable | unverified => rfl

theorem State.movePlace_stock (s : State) (before after : Location) : (s.movePlace before after).stock = s.stock := by
  unfold State.movePlace
  split
  · rfl
  · rw [State.enterPlace_stock, State.leavePlace_stock]

theorem State.movePlace_self (s : State) (place : Location) : s.movePlace place place = s := if_pos rfl

theorem State.movePlace_of_ne (s : State) {before after : Location} (moved : before ≠ after) :
    s.movePlace before after = (s.leavePlace before).enterPlace after := if_neg moved

theorem State.stockFrame_stock (s : State) (cause : StockCause) (scrap : Nat) (p : Piece) :
    (s.stockFrame cause scrap p).stock = s.stock := by
  unfold State.stockFrame
  split
  · rfl
  · rw [State.transmit_eq]

theorem State.id_of_piece {s : State} {id : Nat} {p : Piece} (found : s.piece id = some p) : p.id = id := by
  simpa using List.find?_some found

/-- The record read after it is replaced by one of the same ID. -/
theorem State.piece_writePiece {s : State} {id : Nat} {p q : Piece} (found : s.piece id = some p) (named : q.id = id) :
    (s.writePiece id q).piece id = some q := by
  have keeps : (fun x : Piece => decide (x.id = id)) ∘ (fun x => if x.id = id then q else x) =
      fun x => decide (x.id = id) := by
    funext x
    by_cases here : x.id = id <;> simp [here, named]
  have read : s.stock.find? (fun x => decide (x.id = id)) = some p := found
  simp only [State.piece, State.writePiece, List.find?_map, keeps, read, Option.map_some, State.id_of_piece found,
    if_true]

/-! ## A record after a change (R144, R147) -/

theorem State.changePiece_of_piece {s : State} {id : Nat} {p : Piece} (found : s.piece id = some p)
    (cause : StockCause) (f : Piece → Piece) :
    s.changePiece id cause f =
      ((s.writePiece id (f p).touched).movePlace p.location (f p).touched.location).stockFrame cause 0
        (f p).touched := by
  simp only [State.changePiece, found]

theorem State.piece_changePiece {s : State} {id : Nat} {p : Piece} (found : s.piece id = some p) (cause : StockCause)
    (f : Piece → Piece) (named : (f p).id = p.id) : (s.changePiece id cause f).piece id = some (f p).touched := by
  have written : (s.writePiece id (f p).touched).piece id = some (f p).touched :=
    State.piece_writePiece found (named.trans (State.id_of_piece found))
  rw [s.changePiece_of_piece found, State.piece, State.stockFrame_stock, State.movePlace_stock]
  exact written

theorem State.acceptRecord_of_piece {s : State} {id : Nat} {p : Piece} (found : s.piece id = some p) :
    s.acceptRecord id = s.accept p.block := by
  simp only [State.acceptRecord, State.recordReply, found, Option.map_some, Option.getD_some]

theorem State.acceptRecord_changePiece {s : State} {id : Nat} {p : Piece} (found : s.piece id = some p)
    (cause : StockCause) (f : Piece → Piece) (named : (f p).id = p.id) :
    (s.changePiece id cause f).acceptRecord id = (s.changePiece id cause f).accept (f p).touched.block :=
  State.acceptRecord_of_piece (s.piece_changePiece found cause f named)

/-! ## Requests on the stock -/

section

variable {s u : State} {r : Req} {code : Half} {handle : State → State × Reply} {a : Reply} {id : Nat} {p : Piece}
  {cause : StockCause}

/-- A request that is taken and changes nothing but the stock: the handling's state and its reply. -/
theorem request_of_stockChanges (takes : s.Takes r) (h : handle s = (u, a)) (changes : s.StockChanges u) :
    s.request r code handle = .next (u.reply r code a) := by
  have ⟨_, settled, _⟩ := takes
  have settledAfter := changes.settled settled
  obtain ⟨_, _, _, _, _, rfl⟩ := changes
  exact s.request_eq _ r code handle a takes h settledAfter rfl rfl rfl

/-- A request that is taken and changes nothing: its reply. -/
theorem request_unchanged (takes : s.Takes r) (h : handle s = (s, a)) :
    s.request r code handle = .next (s.reply r code a) :=
  request_of_stockChanges takes h (.refl s)

/-- A request that is taken and answered with a record as it stands. -/
theorem request_keepsRecord (takes : s.Takes r) (found : s.piece id = some p) (h : handle s = s.acceptRecord id) :
    s.request r code handle = .next (s.reply r code (done p.block)) :=
  request_unchanged takes (h.trans (s.acceptRecord_of_piece found))

/-- A request that is taken and changes a record: its STOCK frame, then its reply. -/
theorem request_changesRecord (f : Piece → Piece) (takes : s.Takes r) (found : s.piece id = some p)
    (named : (f p).id = p.id) (h : handle s = (s.changePiece id cause f).acceptRecord id) :
    s.request r code handle =
      .next (State.reply (((s.writePiece id (f p).touched).movePlace p.location (f p).touched.location).stockFrame
        cause 0 (f p).touched) r code (done (f p).touched.block)) := by
  rw [← s.changePiece_of_piece found cause f]
  exact request_of_stockChanges takes (h.trans (s.acceptRecord_changePiece found cause f named))
    (s.changePiece_stockChanges id cause f)

/-- The same where the record stays where it is: no stored count follows. -/
theorem request_changesRecordInPlace (f : Piece → Piece) (takes : s.Takes r) (found : s.piece id = some p)
    (named : (f p).id = p.id) (stays : (f p).touched.location = p.location)
    (h : handle s = (s.changePiece id cause f).acceptRecord id) :
    s.request r code handle =
      .next (State.reply ((s.writePiece id (f p).touched).stockFrame cause 0 (f p).touched) r code
        (done (f p).touched.block)) := by
  rw [request_changesRecord f takes found named h, stays, State.movePlace_self]

/-- The same where the record moves: the stored counts at both ends follow. -/
theorem request_movesRecord (f : Piece → Piece) (takes : s.Takes r) (found : s.piece id = some p)
    (named : (f p).id = p.id) (moved : p.location ≠ (f p).touched.location)
    (h : handle s = (s.changePiece id cause f).acceptRecord id) :
    s.request r code handle =
      .next (State.reply ((((s.writePiece id (f p).touched).leavePlace p.location).enterPlace
        (f p).touched.location).stockFrame cause 0 (f p).touched) r code (done (f p).touched.block)) := by
  rw [request_changesRecord f takes found named h, State.movePlace_of_ne _ moved]

end

/-! ## PIECE.GET (R149) -/

theorem exec_pieceGet (r : Req) (id : Nat) (s : State) :
    exec (.pieceGet r id) s = s.request r 0x0702#16 (handlePieceGet id) := rfl

theorem handlePieceGet_eq (id : Nat) (s : State) :
    handlePieceGet id s = (s, match s.piece id with
      | none => refusal .notFound
      | some p => done p.block) := by
  unfold handlePieceGet
  cases s.piece id <;> rfl

/-- Settles O25: the handling reads the record and leaves the state. -/
theorem pieceGetReturns : Obligations.PieceGetReturns := by
  intro r id s takes
  rw [exec_pieceGet]
  exact request_unchanged takes (handlePieceGet_eq id s)

/-! ## PIECE.LIST (R150) -/

theorem exec_pieceList (r : Req) (start count : Nat) (changedOnly : Bool) (s : State) :
    exec (.pieceList r start count changedOnly) s =
      s.request r 0x0703#16 (handlePieceList start count changedOnly) := rfl

/-- The records listed, in the terms of R150: with the flag those changed, without it all. -/
theorem State.listed_eq (s : State) (start : Nat) (changedOnly : Bool) :
    s.listed start changedOnly =
      s.stock.filter fun p => decide (start ≤ p.id ∧ (changedOnly = false ∨ p.changed = true)) := by
  cases changedOnly <;> simp [State.listed]

theorem State.listed_isEmpty (s : State) (start : Nat) (changedOnly : Bool) :
    (s.listed start changedOnly).isEmpty = true ↔
      ¬∃ q ∈ s.stock, start ≤ q.id ∧ (changedOnly = false ∨ q.changed = true) := by
  simp [State.listed_eq]

theorem State.nextId_eq (s : State) (returned : List Piece) (changedOnly : Bool) :
    s.nextId returned changedOnly = match returned.getLast? with
      | none => none
      | some p =>
        if ∃ q ∈ s.stock, p.id < q.id ∧ (changedOnly = false ∨ q.changed = true) then some (p.id + 1)
        else none := by
  unfold State.nextId
  cases returned.getLast? with
  | none => rfl
  | some p =>
    simp only [State.listed_isEmpty, ite_not]
    rfl

theorem State.clearChanged_eq (s : State) (returned : List Piece) :
    s.clearChanged returned = { s with stock := s.stock.map fun p =>
      if ∃ q ∈ returned, q.id = p.id then { p with changed := false } else p } := by
  simp [State.clearChanged]

/-- Settles O26: the records, the next ID and the clearing are those of the handling, in the words of R150. -/
theorem pieceListReturnsAndClears : Obligations.PieceListReturnsAndClears := by
  intro r start count changedOnly s takes
  rw [exec_pieceList]
  simp only [Nat.lt_one_iff (n := start)]
  split
  case isTrue outside => exact request_unchanged takes (if_pos outside)
  case isFalse inside =>
    have handled : handlePieceList start count changedOnly s = _ := if_neg inside
    simp only [State.nextId_eq, State.clearChanged_eq, State.listed_eq] at handled
    refine request_of_stockChanges takes handled ?_
    split
    · exact ⟨_, _, _, _, _, rfl⟩
    · exact .refl s

/-! ## PIECE.RESERVE and PIECE.UNRESERVE (R152) -/

theorem exec_pieceReserve (r : Req) (id tag : Nat) (s : State) :
    exec (.pieceReserve r id tag) s = s.request r 0x0705#16 (handlePieceReserve id tag) := rfl

theorem pieceReserve_writes (r : Req) (id tag : Nat) (s : State) (takes : s.Takes r) :
    exec (.pieceReserve r id tag) s =
      if 65535 < tag then .next (s.reply r 0x0705#16 (refusal .badValue))
      else match s.piece id with
        | none => .next (s.reply r 0x0705#16 (refusal .notFound))
        | some p =>
          if p.lifecycle = .inCut then .next (s.reply r 0x0705#16 (stockRefusal .busy .pieceInCut))
          else if p.tag = some tag then .next (s.reply r 0x0705#16 (done p.block))
          else if p.tag ≠ none then .next (s.reply r 0x0705#16 (refusal .inUse))
          else
            let q := { p with tag := some tag, revision := p.revision + 1, changed := true }
            .next (State.reply ((s.writePiece id q).stockFrame .reserved 0 q) r 0x0705#16 (done q.block)) := by
  rw [exec_pieceReserve]
  split
  · next wide => exact request_unchanged takes (if_pos wide)
  next narrow =>
  split
  · next absent => exact request_unchanged takes (by simp [handlePieceReserve, narrow, absent])
  next p found =>
  split
  · next cut => exact request_unchanged takes (by simp [handlePieceReserve, narrow, found, cut])
  next uncut =>
  split
  · next same => exact request_keepsRecord takes found (by simp [handlePieceReserve, narrow, found, uncut, same])
  next differs =>
  split
  · next reserved =>
    obtain ⟨held, isHeld⟩ := Option.ne_none_iff_exists'.mp reserved
    have other : held ≠ tag := by simpa [isHeld] using differs
    exact request_unchanged takes (by simp [handlePieceReserve, narrow, found, uncut, isHeld, other])
  · next free =>
    exact request_changesRecordInPlace (fun p => { p with tag := some tag }) takes found rfl rfl
      (by simp [handlePieceReserve, narrow, found, uncut, Decidable.not_not.mp free])

theorem exec_pieceUnreserve (r : Req) (id : Nat) (s : State) :
    exec (.pieceUnreserve r id) s = s.request r 0x0706#16 (handlePieceUnreserve id) := rfl

theorem pieceUnreserve_writes (r : Req) (id : Nat) (s : State) (takes : s.Takes r) :
    exec (.pieceUnreserve r id) s =
      match s.piece id with
      | none => .next (s.reply r 0x0706#16 (refusal .notFound))
      | some p =>
        if p.lifecycle = .inCut then .next (s.reply r 0x0706#16 (stockRefusal .busy .pieceInCut))
        else if p.tag = none then .next (s.reply r 0x0706#16 (done p.block))
        else
          let q := { p with tag := none, revision := p.revision + 1, changed := true }
          .next (State.reply ((s.writePiece id q).stockFrame .unreserved 0 q) r 0x0706#16 (done q.block)) := by
  rw [exec_pieceUnreserve]
  split
  · next absent => exact request_unchanged takes (by simp [handlePieceUnreserve, absent])
  next p found =>
  split
  · next cut => exact request_unchanged takes (by simp [handlePieceUnreserve, found, cut])
  next uncut =>
  split
  · next free => exact request_keepsRecord takes found (by simp [handlePieceUnreserve, found, uncut, free])
  · next held =>
    exact request_changesRecordInPlace (fun p => { p with tag := none }) takes found rfl rfl
      (by simp [handlePieceUnreserve, found, uncut, held])

/-! ## Places (R6, R147, R153) -/

theorem placeOf_eq (place : PlaceArg) : placeOf place =
    if place.kind = 1 then some (.zone place.number)
    else if h : place.kind = 3 ∧ place.number < 6 then some (.onTable ⟨place.number, h.2⟩)
    else none := by
  unfold placeOf
  split
  case h_1 zone => rw [if_pos zone]
  case h_2 table => by_cases below : place.number < 6 <;> simp [asFin, table, below]
  case h_3 zone table => rw [if_neg zone, dif_neg fun h => table h.1]

theorem State.addressable_zone (s : State) (z : Nat) :
    s.addressable (.zone z) = true ↔ s.geometrySet = true ∧ z < s.bridge.zones * s.trolley.zones := by
  cases geometry : s.geometrySet <;> simp [State.addressable, State.zoneCount, geometry]

theorem Use.stores_iff (use : Use) : use.stores = true ↔ use = .floor ∨ use = .rack := by
  cases use <;> simp [Use.stores]

/-- What a zone refuses, by its use and its room (R6, R147). -/
theorem State.placeRefusal_zone (s : State) (z : Nat) : s.placeRefusal (.zone z) =
    if (s.zone z).use = .floor ∨ (s.zone z).use = .rack then
      if (s.zone z).capacity ≤ (s.zone z).stored then some (.full, .zoneFull) else none
    else some (.badValue, .zoneUnusable) := by
  simp only [State.placeRefusal, ← Use.stores_iff, ← Bool.not_eq_true, ite_not]

/-- What a table refuses, by its state and the pieces on it (R147). -/
theorem State.placeRefusal_onTable (s : State) (t : Fin 6) : s.placeRefusal (.onTable t) =
    if (s.table t).state ≠ .idle ∨ ∃ p ∈ s.stock, p.location = .onTable t then some (.busy, .tableOccupied)
    else none := by
  simp [State.placeRefusal, State.tableOccupied]

theorem State.placeRefusal_zone_iffs (s : State) (z : Nat) :
    (s.placeRefusal (.zone z) = some (.badValue, .zoneUnusable) ↔
        (s.zone z).use ≠ .floor ∧ (s.zone z).use ≠ .rack) ∧
      (s.placeRefusal (.zone z) = some (.full, .zoneFull) ↔
        ((s.zone z).use = .floor ∨ (s.zone z).use = .rack) ∧ (s.zone z).capacity ≤ (s.zone z).stored) ∧
      (s.placeRefusal (.zone z) = none ↔
        ((s.zone z).use = .floor ∨ (s.zone z).use = .rack) ∧ (s.zone z).stored < (s.zone z).capacity) := by
  rw [s.placeRefusal_zone, ← not_or, ← Nat.not_le]
  by_cases stores : (s.zone z).use = .floor ∨ (s.zone z).use = .rack
  · by_cases full : (s.zone z).capacity ≤ (s.zone z).stored
    · simp [stores, full]
    · simp [stores, full]
  · simp [stores]

theorem State.placeRefusal_onTable_iffs (s : State) (t : Fin 6) :
    (s.placeRefusal (.onTable t) = some (.busy, .tableOccupied) ↔
        (s.table t).state ≠ .idle ∨ ∃ p ∈ s.stock, p.location = .onTable t) ∧
      (s.placeRefusal (.onTable t) = none ↔
        (s.table t).state = .idle ∧ ∀ p ∈ s.stock, p.location ≠ .onTable t) := by
  rw [s.placeRefusal_onTable]
  exact ⟨by simp [Decidable.imp_iff_not_or], by simp⟩

/-! ## PIECE.PLACE (R153) -/

theorem exec_piecePlace (r : Req) (id : Nat) (place : PlaceArg) (s : State) :
    exec (.piecePlace r id place) s = s.request r 0x0707#16 (handlePiecePlace id place) := rfl

theorem piecePlace_writes (r : Req) (id : Nat) (place : PlaceArg) (s : State) (takes : s.Takes r) :
    exec (.piecePlace r id place) s =
      match s.piece id with
      | none => .next (s.reply r 0x0707#16 (refusal .notFound))
      | some p =>
        if p.onCrane = true then .next (s.reply r 0x0707#16 (refusal .busy))
        else if p.lifecycle = .inCut then .next (s.reply r 0x0707#16 (stockRefusal .busy .pieceInCut))
        else match placeOf place with
          | none => .next (s.reply r 0x0707#16 (refusal .badValue))
          | some target =>
            if p.location = target then .next (s.reply r 0x0707#16 (done p.block))
            else if s.addressable target = false then .next (s.reply r 0x0707#16 (refusal .badValue))
            else match s.placeRefusal target with
              | some (result, reason) => .next (s.reply r 0x0707#16 (stockRefusal result reason))
              | none =>
                let q := { p with location := target, revision := p.revision + 1, changed := true }
                .next (State.reply
                  ((((s.writePiece id q).leavePlace p.location).enterPlace target).stockFrame .placed 0 q)
                  r 0x0707#16 (done q.block)) := by
  rw [exec_piecePlace]
  split
  · next absent => exact request_unchanged takes (by simp [handlePiecePlace, absent])
  next p found =>
  split
  · next carried => exact request_unchanged takes (by simp [handlePiecePlace, found, carried])
  next laid =>
  split
  · next cut => exact request_unchanged takes (by simp [handlePiecePlace, found, laid, cut])
  next uncut =>
  split
  · next noPlace => exact request_unchanged takes (by simp [handlePiecePlace, found, laid, uncut, noPlace])
  next target isPlace =>
  split
  · next there =>
    exact request_keepsRecord takes found (by simp [handlePiecePlace, found, laid, uncut, isPlace, there])
  next moved =>
  split
  · next beyond =>
    exact request_unchanged takes (by simp [handlePiecePlace, found, laid, uncut, isPlace, moved, beyond])
  next reachable =>
  split
  · next result reason refused =>
    exact request_unchanged takes (by simp [handlePiecePlace, found, laid, uncut, isPlace, moved, reachable, refused])
  · next taken =>
    exact request_movesRecord (fun p => { p with location := target }) takes found rfl moved
      (by simp [handlePiecePlace, found, laid, uncut, isPlace, moved, reachable, taken])

/-! ## PIECE.AMEND (R154) -/

theorem exec_pieceAmend (r : Req) (id : Nat) (v : AmendArgs) (s : State) :
    exec (.pieceAmend r id v) s = s.request r 0x0708#16 (handlePieceAmend id v) := rfl

theorem pieceAmend_writes (r : Req) (id : Nat) (v : AmendArgs) (s : State) (takes : s.Takes r) :
    exec (.pieceAmend r id v) s =
      match s.piece id with
      | none => .next (s.reply r 0x0708#16 (refusal .notFound))
      | some p =>
        if p.lifecycle = .inCut then .next (s.reply r 0x0708#16 (stockRefusal .busy .pieceInCut))
        else if ¬pieceSizesInRange v.grade v.thickness v.width v.length then
          .next (s.reply r 0x0708#16 (refusal .badValue))
        else if p.amended v = p then .next (s.reply r 0x0708#16 (done p.block))
        else
          let q := { p.amended v with revision := p.revision + 1, changed := true }
          .next (State.reply ((s.writePiece id q).stockFrame .amended 0 q) r 0x0708#16 (done q.block)) := by
  rw [exec_pieceAmend]
  split
  · next absent => exact request_unchanged takes (by simp [handlePieceAmend, absent])
  next p found =>
  split
  · next cut => exact request_unchanged takes (by simp [handlePieceAmend, found, cut])
  next uncut =>
  split
  · next outside =>
    exact request_unchanged takes (by simp only [handlePieceAmend, found, if_neg uncut, if_pos outside]; rfl)
  next inside =>
  split
  · next same =>
    exact request_keepsRecord takes found
      (by simp only [handlePieceAmend, found, if_neg uncut, if_neg inside, if_pos same])
  · next differs =>
    exact request_changesRecordInPlace (fun p => p.amended v) takes found rfl rfl
      (by simp only [handlePieceAmend, found, if_neg uncut, if_neg inside, if_neg differs])

/-- Settles O37: each request by its own lemma, then the places and what they refuse. -/
theorem recordRequestsWrite : Obligations.RecordRequestsWrite :=
  ⟨⟨⟨pieceReserve_writes, pieceUnreserve_writes⟩, piecePlace_writes, pieceAmend_writes⟩, placeOf_eq, fun s =>
    ⟨s.addressable_zone, fun _ => rfl, s.placeRefusal_zone_iffs, s.placeRefusal_onTable_iffs⟩⟩

end Sys2Proof.Machine
